-- ==== Sys2Proof/Word.lean ====
section
/-! DEFINITION. The word types. Every word of the engine is a 64-bit unsigned integer and every `+`, `-`, `*`
is taken modulo 2^64 (00_scope.md R4), which is what `BitVec 64` arithmetic does; `^^^` and `~~~` act on all
64 bits, `<<<` fills with zeros at the bottom and `>>>` with zeros at the top (R5). So the spec's `add64`,
`sub64`, `mul64`, `not64`, `shl64`, `shr64` are the operators `+`, `-`, `*`, `~~~`, `<<<`, `>>>`. -/

namespace Sys2Proof

/-- A 64-bit unsigned word (00_scope.md R4, R7 `W`). -/
abbrev Word := BitVec 64

/-- A byte: one cell of the block buffer, or one index of a ROM table. -/
abbrev Byte := BitVec 8

end Sys2Proof
end

