-- ==== Sys2Proof/Config.lean ====
section
/-! DEFINITION. What an implementation or the platform fixes (00_scope.md R7, the rows of kind "parameter"), and the
free values. An `opaque` constant has no body here: nothing can be proved about its value. -/

namespace Sys2Proof

/-- The four substitution tables `T1..T4` (40_sbox_rom.md R70). -/
inductive Table where
  | t1 | t2 | t3 | t4
  deriving DecidableEq, Repr

/-- The contents of the S-box ROM, the parameter `SBOX` of 00_scope.md R7: four tables of exactly 256 words
(40_sbox_rom.md R70). Any value of this type is a ROM; the published one is `Machine.sboxPub`. -/
structure Rom where
  t1 : Vector Word 256
  t2 : Vector Word 256
  t3 : Vector Word 256
  t4 : Vector Word 256
  deriving DecidableEq, Repr

namespace Config

/-- `BASE`, the bus address of offset 0 of the register window: OPEN, fixed by the platform (92_eei_decisions.md D2,
93_implementation_defined.md U11). No rule depends on it (log 12). -/
opaque base : Nat

/-- The bus address of byte offset `off` of the register window (20_memory.md R30). -/
def busAddress (off : Nat) : Nat := base + off

/-- `LAT(op)`, the clock cycles of a micro-step by the `op` field of its word: OPEN, unused by every rule
(70_reset_and_hazards.md R160, 93_implementation_defined.md U10). Its argument is the kind of step alone, so it cannot
depend on data (log 12). -/
opaque lat : BitVec 2 → Nat

/-- Free value: the 64-bit register number `k` as the `n`-th reset leaves it (10_state.md R22: "unspecified: each may
hold any value, and two resets need not leave the same value"). Registers 0..2 are `H`, 3..10 `X`, 11..13 `R` (log 4). -/
opaque resetWord : (n k : Nat) → Word

/-- Free value: byte `k` of the block buffer as the `n`-th reset leaves it (10_state.md R22; log 4). -/
opaque resetByte : (n k : Nat) → Byte

end Config
end Sys2Proof
end

