-- ==== Sys2Proof/Machine/ResetDraw.lean ====
section
/-! DEFINITION. The data registers as a reset leaves them: free draws, one for each reset (10_state.md R22,
93_implementation_defined.md U2; log 4). -/

namespace Sys2Proof.Machine

/-- `H` as reset number `n` leaves it (10_state.md R22). -/
def drawnH (n : Nat) : Vector Word 3 :=
  #v[Config.resetWord n 0, Config.resetWord n 1, Config.resetWord n 2]

/-- `BLK` as reset number `n` leaves it (10_state.md R22). -/
def drawnBlk (n : Nat) : Vector Byte 64 := Vector.ofFn fun k : Fin 64 => Config.resetByte n k

/-- `X` as reset number `n` leaves it (10_state.md R22). -/
def drawnX (n : Nat) : Vector Word 8 := Vector.ofFn fun k : Fin 8 => Config.resetWord n (3 + k)

/-- `R` as reset number `n` leaves it (10_state.md R22). -/
def drawnR (n : Nat) : Vector Word 3 :=
  #v[Config.resetWord n 11, Config.resetWord n 12, Config.resetWord n 13]

end Sys2Proof.Machine
end

