-- ==== Sys2Proof/Syntax.lean ====
section
/-! DEFINITION. The operations of the engine: one constructor per row of spec/opcode_table.json (30_encoding.md R50). -/

namespace Sys2Proof

/-- The two host commands and the four micro-operations (30_encoding.md R50, R52, R55). The operands of `round` are
the raw fields of the micro-operation word (R54); which values of them are legal is `Instr.wf`. -/
inductive Instr where
  /-- `NOP`: command word 0x0 (44_compress_engine.md R117). -/
  | nop
  /-- `START`: command word 0x1 (44_compress_engine.md R116). -/
  | start
  /-- `LOAD`: decode the block, copy the state (44_compress_engine.md R114). -/
  | load
  /-- `ROUND rot, widx, msel`: one round (41_round_mixer.md R83). -/
  | round (rot : BitVec 2) (widx : BitVec 3) (msel : BitVec 2)
  /-- `KSCHED`: the key schedule (43_key_schedule.md R109). -/
  | ksched
  /-- `FOLD`: the feed-forward (44_compress_engine.md R115). -/
  | fold
  deriving DecidableEq, Repr

/-- An encoded operation, in one of the two encoded spaces of 30_encoding.md R50. -/
inductive Code where
  /-- A 64-bit word written to `CMD` (format CMD, R51). -/
  | cmd (v : Word)
  /-- A 9-bit micro-operation word (format UOP, R54). -/
  | uop (u : BitVec 9)
  deriving DecidableEq, Repr

end Sys2Proof
end

