-- ==== Sys2Proof/Machine/State.lean ====
section
/-! DEFINITION. The state of one engine instance (10_state.md R10 to R19, R21), the reasons a step can stop, and the state
after reset. -/

namespace Sys2Proof.Machine

/-- A host access to the register window, the two primitives of 20_memory.md R44. Offsets and sizes are in bytes;
the value of an `n`-byte write is the low `n` bytes of `v` (log 8). -/
inductive Access where
  /-- `MemRead(off, n)` (20_memory.md R36). -/
  | read (off n : Nat)
  /-- `MemWrite(off, n, v)` (20_memory.md R37, R38). -/
  | write (off n : Nat) (v : Word)
  deriving DecidableEq, Repr

/-- Who moves in one step: every access, micro-step and reset is atomic and they form one total order
(20_memory.md R39, R40; log 6). -/
inductive Turn where
  /-- The engine's one enabled step, if it has one (42_pass_sequencer.md R95, R97). -/
  | engine
  /-- One access of the host. -/
  | host (a : Access)
  /-- The Reset event of the environment (70_reset_and_hazards.md R150). -/
  | reset
  deriving DecidableEq, Repr

/-- The three causes of a host contract violation (60_exceptions.md R131). -/
inductive ErrCause where
  | busy | cmd | acc
  deriving DecidableEq, Repr

/-- The complete state of one engine instance (10_state.md R21), the configuration argument `rom` (R19), and the model's
own fields `turns`, `replies`, `draws`. -/
structure State where
  /-- `H[0..2]`, the chaining state (10_state.md R10). -/
  h : Vector Word 3
  /-- `BLK[0..63]`, the block buffer (10_state.md R11). -/
  blk : Vector Byte 64
  /-- `X[0..7]`, the working words (10_state.md R12). -/
  x : Vector Word 8
  /-- `R[0..2]`, the accumulators A, B, C (10_state.md R13). -/
  r : Vector Word 3
  /-- `SEQ`, the sequencer counter; 0 is idle, legal values 0..28 (10_state.md R14). -/
  seq : BitVec 5
  /-- `DONE` (10_state.md R15). -/
  done : Bool
  /-- `ERR_BUSY`, sticky (10_state.md R16). -/
  errBusy : Bool
  /-- `ERR_CMD`, sticky (10_state.md R16). -/
  errCmd : Bool
  /-- `ERR_ACC`, sticky (10_state.md R16). -/
  errAcc : Bool
  /-- `SBOX`, the ROM contents: constant, written by nobody (10_state.md R19; log 1). -/
  rom : Rom
  /-- The model's own: the turns still to come, oldest first; when empty the engine has the turn (log 6). -/
  turns : List Turn
  /-- The model's own: the values the host's reads have returned, oldest first, extended with zeros (log 7). -/
  replies : List Word
  /-- The model's own: how many resets have drawn the unspecified registers (log 5). -/
  draws : Nat
  deriving DecidableEq, Repr

/-- The reasons the machine stops with a fault: none. "No micro-operation raises an exception, trap or fault, for any
value of any register" (60_exceptions.md R130), and a refused host access goes on with a sticky flag (R135). -/
inductive Fault where
  deriving DecidableEq, Repr

/-- The reasons a step is refused. -/
inductive Refusal where
  /-- An instruction that has no meaning yet, by its mnemonic; no arm answers it in this model. Safe. -/
  | notModelled (mnemonic : String)
  /-- A reserved micro-operation word was issued: "must refuse (not execute, not treat as a no-op)" (30_encoding.md R60).
  Raised by ROUND with `rot = 3` or `msel = 3` and by the sequencer; unreachable from a step (log 9). Safe. -/
  | reservedMicroOp
  /-- `SEQ` holds 29, 30 or 31 (10_state.md R14, 93_implementation_defined.md U6). Raised by an engine or host turn of a
  state that holds one; unreachable from reset (log 10). Safe. -/
  | illegalSeq
  deriving DecidableEq, Repr

/-- The state right after the power-on reset (70_reset_and_hazards.md R150, R151): idle, all flags 0, the data registers
a free draw, the ROM `SBOX_PUB` (40_sbox_rom.md R73). -/
def State.reset : State where
  h := drawnH 0
  blk := drawnBlk 0
  x := drawnX 0
  r := drawnR 0
  seq := 0
  done := false
  errBusy := false
  errCmd := false
  errAcc := false
  rom := sboxPub
  turns := []
  replies := []
  draws := 1

/-! Named updates of single fields. -/

def State.setH (s : State) (v : Vector Word 3) : State := { s with h := v }
def State.setBlk (s : State) (v : Vector Byte 64) : State := { s with blk := v }
def State.setX (s : State) (v : Vector Word 8) : State := { s with x := v }
def State.setR (s : State) (v : Vector Word 3) : State := { s with r := v }
def State.setSeq (s : State) (v : BitVec 5) : State := { s with seq := v }
def State.setDone (s : State) (v : Bool) : State := { s with done := v }
def State.setTurns (s : State) (v : List Turn) : State := { s with turns := v }
/-- Hand the host the value of a read. -/
def State.reply (s : State) (v : Word) : State := { s with replies := s.replies ++ [v] }

end Sys2Proof.Machine
end

