-- ==== Sys2Proof/Machine/Flags.lean ====
section
/-! DEFINITION. The flags. There are no arithmetic flags and no condition codes (10_state.md R21, 41_round_mixer.md R86): the
only flags are `DONE` and the three sticky error flags, read through `STATUS` (10_state.md R15 to R17). -/

namespace Sys2Proof.Machine

/-- The engine is busy: `SEQ != 0` (10_state.md R14, R17). -/
def State.busy (s : State) : Bool := s.seq != 0

/-- The code of a cause: its bit position in `STATUS` minus 8 (60_exceptions.md R131). -/
def ErrCause.code : ErrCause → Nat
  | .busy => 0
  | .cmd => 1
  | .acc => 2

/-- The sticky flag of a cause (60_exceptions.md R131). -/
def State.flag (s : State) : ErrCause → Bool
  | .busy => s.errBusy
  | .cmd => s.errCmd
  | .acc => s.errAcc

/-- Set the sticky flag of a cause and nothing else. -/
def State.setFlag (s : State) : ErrCause → State
  | .busy => { s with errBusy := true }
  | .cmd => { s with errCmd := true }
  | .acc => { s with errAcc := true }

/-- Bit `n` of a word, set when `b` holds. -/
def bitAt (b : Bool) (n : Nat) : Word := if b then 1 <<< n else 0

/-- The value of `STATUS` (10_state.md R17): BUSY bit 0, DONE bit 1, the error flags at bit 8 plus their code, every other
bit 0. -/
def statusWord (s : State) : Word :=
  bitAt s.busy 0 ||| bitAt s.done 1 |||
    bitAt s.errBusy (8 + ErrCause.busy.code) ||| bitAt s.errCmd (8 + ErrCause.cmd.code) |||
      bitAt s.errAcc (8 + ErrCause.acc.code)

end Sys2Proof.Machine
end

