-- ==== Sys2Proof/Machine/Operands.lean ====
section
/-! DEFINITION. Operand forms: bytes and little-endian words (20_memory.md R32, R33), the ROM read primitive and its address
(30_encoding.md R63, 40_sbox_rom.md R71), the roles and the multiplier of a ROUND (30_encoding.md R56, R57). -/

namespace Sys2Proof.Machine

/-- `byte(v, k) = v[8k+7:8k]` (00_scope.md section 6). -/
def byteOf (v : Word) (k : Nat) : Byte := v.extractLsb' (8 * k) 8

/-- `LE64(b0, b1, ...) = b0 + b1*2^8 + ...`: the first byte is the least significant (00_scope.md section 6, 20_memory.md R32). -/
def leWord : List Byte → Word
  | [] => 0
  | b :: bs => b.setWidth 64 + 256 * leWord bs

/-- Byte `n` of the block buffer; the buffer has exactly 64 bytes and no rule reads past them (10_state.md R11). -/
def byteAt (blk : Vector Byte 64) (n : Nat) : Byte := if h : n < 64 then blk[n] else 0

/-- The little-endian value of the `n` bytes of the block buffer from offset `off` (20_memory.md R32, R36). -/
def blockValue (blk : Vector Byte 64) (off n : Nat) : Word :=
  leWord ((List.range n).map fun k => byteAt blk (off + k))

/-- Block word `i`: `LE64(BLK[8i], ..., BLK[8i+7])` (20_memory.md R33). -/
def blockWord (blk : Vector Byte 64) (i : Nat) : Word := blockValue blk (8 * i) 8

/-- The eight block words (20_memory.md R33, 44_compress_engine.md R114). -/
def blockWords (blk : Vector Byte 64) : Vector Word 8 := Vector.ofFn fun i : Fin 8 => blockWord blk i

/-- The block buffer after an `n`-byte store of `v` at `off`: byte `off + k` becomes `v[8k+7:8k]` for k in 0..n-1 and no
other byte changes (20_memory.md R32, R37). -/
def storeBytes (blk : Vector Byte 64) (off n : Nat) (v : Word) : Vector Byte 64 :=
  Vector.ofFn fun i : Fin 64 => if off ≤ i ∧ i < off + n then byteOf v (i - off) else blk[i]

/-- The address bits of a table: `k - 1` (30_encoding.md R63). -/
def tableCode : Table → BitVec 2
  | .t1 => 0b00
  | .t2 => 0b01
  | .t3 => 0b10
  | .t4 => 0b11

/-- The 10-bit ROM address of `T(k, i)`: `addr[9:8] = k - 1`, `addr[7:0] = i` (30_encoding.md R63). -/
def romAddress (k : Table) (i : Byte) : BitVec 10 := tableCode k ++ i

/-- The word at a ROM address; all 1024 are populated (30_encoding.md R63). -/
def romWord (rom : Rom) (addr : BitVec 10) : Word :=
  let i : Byte := addr.extractLsb' 0 8
  let k : BitVec 2 := addr.extractLsb' 8 2
  let t := if k = 0b00 then rom.t1 else if k = 0b01 then rom.t2 else if k = 0b10 then rom.t3 else rom.t4
  t[i.toNat]'i.isLt

/-- The ROM read primitive `T(k, i)` (40_sbox_rom.md R71). The index is a byte, so it is never out of range. -/
def sboxRead (rom : Rom) (k : Table) (i : Byte) : Word := romWord rom (romAddress k i)

/-- Role a of a ROUND is register `R[rot]`; `rot = 3` is reserved (30_encoding.md R57). -/
def rotIndex (rot : BitVec 2) : Option (Fin 3) :=
  if rot = 0 then some 0 else if rot = 1 then some 1 else if rot = 2 then some 2 else none

/-- The multiplier of `msel`: 5, 7, 9; `msel = 3` is reserved (30_encoding.md R56). -/
def mulOf (msel : BitVec 2) : Option Word :=
  if msel = 0 then some 5 else if msel = 1 then some 7 else if msel = 2 then some 9 else none

/-- The working word `X[widx]` (30_encoding.md R54). -/
def workingWord (x : Vector Word 8) (widx : BitVec 3) : Word := x[widx.toNat]'widx.isLt

end Sys2Proof.Machine
end

