-- ==== Sys2Proof/Machine/Ops.lean ====
section
/-! DEFINITION. The shared operations on the state: raising an error, moving the sequencer on, answering a read, the Reset
event. -/

namespace Sys2Proof.Machine

/-- The outcome of a step or of an operation of this machine. -/
abbrev Result := Host.Outcome State Fault Refusal

/-- `raise Err(F)`, this machine's one exceptional effect, in full (60_exceptions.md R135): the sticky flag becomes 1, nothing
else changes, the access completes. There is no trap entry: "no state is saved, no mode changes, no vector is fetched,
control goes nowhere". So there is no return from it either (R137). -/
def raiseErr (f : ErrCause) (s : State) : State := s.setFlag f

/-- `SEQ <- SEQ + 1` (42_pass_sequencer.md R95). -/
def advanceSeq (s : State) : State := s.setSeq (s.seq + 1)

/-- The Reset event, one atomic step in any state (70_reset_and_hazards.md R150): the control registers become 0 and the data
registers unspecified, a new free draw each time (93_implementation_defined.md U2). The ROM is unaffected (40_sbox_rom.md R72);
the model's own `turns` and `replies` are the outside world's and stay (log 5). -/
def resetEvent (s : State) : State :=
  { s with
    h := drawnH s.draws
    blk := drawnBlk s.draws
    x := drawnX s.draws
    r := drawnR s.draws
    seq := 0
    done := false
    errBusy := false
    errCmd := false
    errAcc := false
    draws := s.draws + 1 }

end Sys2Proof.Machine
end

