-- ==== Sys2Proof/Machine/Command.lean ====
section
/-! DEFINITION. The host commands NOP and START (44_compress_engine.md R116, R117). -/

namespace Sys2Proof.Machine

/-- The NOP command: nothing while idle, `ERR_BUSY` while busy (44_compress_engine.md R117). -/
def execNop (s : State) : Result := .next (if s.busy then raiseErr .busy s else s)

/-- The START command: `DONE <- 0`, `SEQ <- 1` while idle, `ERR_BUSY` while busy (44_compress_engine.md R116). -/
def execStart (s : State) : Result :=
  .next (if s.busy then raiseErr .busy s else (s.setDone false).setSeq 1)

end Sys2Proof.Machine
end

