-- ==== Sys2Proof/Machine/KeySchedule.lean ====
section
/-! DEFINITION. Component 4, the key-schedule transformer: the sixteen assignments K1 to K16 (43_key_schedule.md R105, as
90_conflicts.md C1 resolves the count) and the KSCHED micro-operation (R109). UNVERIFIED: the assignments are marked
[from general knowledge, not in source] by the spec itself (log 3). -/

namespace Sys2Proof.Machine

/-- The constant of K1 (00_scope.md R7 `KS_C0`). -/
def ksC0 : Word := 0xA5A5A5A5A5A5A5A5

/-- The constant of K16 (00_scope.md R7 `KS_C1`). -/
def ksC1 : Word := 0x0123456789ABCDEF

/-- `shl64(not64(w), 19)`: the complement first, then the shift (43_key_schedule.md R107). -/
def notShl (w : Word) : Word := (~~~w) <<< 19

/-- `shr64(not64(w), 23)`: the complement first, then the logical shift (43_key_schedule.md R107). -/
def notShr (w : Word) : Word := (~~~w) >>> 23

/-- Assignments K1 to K8: every word once (43_key_schedule.md R105). -/
def ksFirst (x : Vector Word 8) : Vector Word 8 :=
  let x0 := x[0] - (x[7] ^^^ ksC0)
  let x1 := x[1] ^^^ x0
  let x2 := x[2] + x1
  let x3 := x[3] - (x2 ^^^ notShl x1)
  let x4 := x[4] ^^^ x3
  let x5 := x[5] + x4
  let x6 := x[6] - (x5 ^^^ notShr x4)
  let x7 := x[7] ^^^ x6
  #v[x0, x1, x2, x3, x4, x5, x6, x7]

/-- Assignments K9 to K16: every word a second time (43_key_schedule.md R105). -/
def ksSecond (x : Vector Word 8) : Vector Word 8 :=
  let x0 := x[0] + x[7]
  let x1 := x[1] - (x0 ^^^ notShl x[7])
  let x2 := x[2] ^^^ x1
  let x3 := x[3] + x2
  let x4 := x[4] - (x3 ^^^ notShr x2)
  let x5 := x[5] ^^^ x4
  let x6 := x[6] + x5
  let x7 := x[7] - (x6 ^^^ ksC1)
  #v[x0, x1, x2, x3, x4, x5, x6, x7]

/-- The KeySchedule function: K1 to K16 in order (43_key_schedule.md R105, R108). -/
def keySchedule (x : Vector Word 8) : Vector Word 8 := ksSecond (ksFirst x)

/-- The KSCHED micro-operation (43_key_schedule.md R109). -/
def execKsched (s : State) : Result := .next (advanceSeq (s.setX (keySchedule s.x)))

end Sys2Proof.Machine
end

