-- ==== Sys2Proof/Machine/Mixer.lean ====
section
/-! DEFINITION. Component 2, the round mixer: the Round function and the ROUND micro-operation (41_round_mixer.md R80 to R86). -/

namespace Sys2Proof.Machine

/-- The word a' of a round, from the even bytes of the new c (41_round_mixer.md R80 step 3, R82). -/
def evenMix (rom : Rom) (c : Word) : Word :=
  sboxRead rom .t1 (byteOf c 0) ^^^ sboxRead rom .t2 (byteOf c 2) ^^^
    sboxRead rom .t3 (byteOf c 4) ^^^ sboxRead rom .t4 (byteOf c 6)

/-- The word b' of a round, from the odd bytes of the new c (41_round_mixer.md R80 step 4, R82). -/
def oddMix (rom : Rom) (c : Word) : Word :=
  sboxRead rom .t4 (byteOf c 1) ^^^ sboxRead rom .t3 (byteOf c 3) ^^^
    sboxRead rom .t2 (byteOf c 5) ^^^ sboxRead rom .t1 (byteOf c 7)

/-- The Round function (41_round_mixer.md R80): c first, then a and b from the updated c (R84). -/
def roundFn (rom : Rom) (a b c x mul : Word) : Word × Word × Word :=
  let c' := c ^^^ x
  (a - evenMix rom c', (b + oddMix rom c') * mul, c')

/-- One round on a register triple with role a at `ia`, role b at `ia + 1` and role c at `ia + 2`, indices modulo 3
(30_encoding.md R57, 42_pass_sequencer.md R91); all three are written together (41_round_mixer.md R83). -/
def roundAt (rom : Rom) (ia : Fin 3) (x mul : Word) (r : Vector Word 3) : Vector Word 3 :=
  let ib : Fin 3 := ia + 1
  let ic : Fin 3 := ia + 2
  let out := roundFn rom r[ia] r[ib] r[ic] x mul
  ((r.set ia out.1).set ib out.2.1).set ic out.2.2

/-- The ROUND micro-operation (41_round_mixer.md R83). A reserved `rot` or `msel` is refused (30_encoding.md R60). -/
def execRound (rot : BitVec 2) (widx : BitVec 3) (msel : BitVec 2) (s : State) : Result :=
  match rotIndex rot, mulOf msel with
  | some ia, some mul => .next (advanceSeq (s.setR (roundAt s.rom ia (workingWord s.x widx) mul s.r)))
  | none, _ => .refused .reservedMicroOp
  | some _, none => .refused .reservedMicroOp

end Sys2Proof.Machine
end

