-- ==== Sys2Proof/Machine/Compress.lean ====
section
/-! DEFINITION. The Pass and Compress functions (42_pass_sequencer.md R90, 44_compress_engine.md R113) and the two
micro-operations that frame a compression, LOAD and FOLD (R114, R115). -/

namespace Sys2Proof.Machine

/-- The Pass function (42_pass_sequencer.md R90): eight rounds, round `i` with word `x[i]` and roles `p[i mod 3]`,
`p[(i+1) mod 3]`, `p[(i+2) mod 3]`. -/
def passFn (rom : Rom) (p : Vector Word 3) (x : Vector Word 8) (mul : Word) : Vector Word 3 :=
  let p := roundAt rom 0 x[0] mul p
  let p := roundAt rom 1 x[1] mul p
  let p := roundAt rom 2 x[2] mul p
  let p := roundAt rom 0 x[3] mul p
  let p := roundAt rom 1 x[4] mul p
  let p := roundAt rom 2 x[5] mul p
  let p := roundAt rom 0 x[6] mul p
  roundAt rom 1 x[7] mul p

/-- The feed-forward: `H[0] xor a`, `b - H[1]`, `c + H[2]` (44_compress_engine.md R113, R115). -/
def feedForward (h : Vector Word 3) (a b c : Word) : Vector Word 3 :=
  #v[h[0] ^^^ a, b - h[1], c + h[2]]

/-- The Compress function (44_compress_engine.md R113): the registers are passed to the three passes as (a,b,c), (c,a,b),
(b,c,a) (42_pass_sequencer.md R93). -/
def compress (rom : Rom) (h : Vector Word 3) (blk : Vector Byte 64) : Vector Word 3 :=
  let x := blockWords blk
  let p := passFn rom h x 5
  let x := keySchedule x
  let q := passFn rom #v[p[2], p[0], p[1]] x 7
  let x := keySchedule x
  let t := passFn rom #v[q[2], q[0], q[1]] x 9
  feedForward h t[2] t[0] t[1]

/-- The LOAD micro-operation (44_compress_engine.md R114). -/
def execLoad (s : State) : Result := .next (advanceSeq ((s.setX (blockWords s.blk)).setR s.h))

/-- The FOLD micro-operation: `H`, `DONE` and `SEQ` in one atomic step (44_compress_engine.md R115). -/
def execFold (s : State) : Result :=
  .next (((s.setH (feedForward s.h s.r[0] s.r[1] s.r[2])).setDone true).setSeq 0)

end Sys2Proof.Machine
end

