-- ==== Sys2Proof/Machine/Dispatch.lean ====
section
/-! DEFINITION. The meaning of every operation, one arm per constructor of Instr. -/

namespace Sys2Proof.Machine

def exec (i : Instr) (s : State) : Host.Outcome State Fault Refusal :=
  match i with
  | .nop => Sys2Proof.Machine.execNop s
  | .start => Sys2Proof.Machine.execStart s
  | .load => Sys2Proof.Machine.execLoad s
  | .round rot widx msel => Sys2Proof.Machine.execRound rot widx msel s
  | .ksched => Sys2Proof.Machine.execKsched s
  | .fold => Sys2Proof.Machine.execFold s

end Sys2Proof.Machine
end

