-- ==== Sys2Proof/WellFormed.lean ====
section
/-! DEFINITION. Which operations are well-formed: the extra condition of the micro-operation table. -/

namespace Sys2Proof

/-- The extra condition of 30_encoding.md R55 on a ROUND: `rr != 11 and mm != 11` (R56, R57: `rot = 3` and
`msel = 3` are reserved). The other operations have no operands. -/
def Instr.wf : Instr → Bool
  | .nop => true
  | .start => true
  | .load => true
  | .round rot _ msel => rot != 3 && msel != 3
  | .ksched => true
  | .fold => true

end Sys2Proof
end

