-- ==== Sys2Proof/Decode.lean ====
section
/-! DEFINITION. The decoder of both encoded spaces, total and rejecting by name, and the encoder
(30_encoding.md R51 to R57, R60). -/

namespace Sys2Proof

/-- Why a word is no operation. -/
inductive Reject where
  /-- A command word other than NOP and START (30_encoding.md R53). -/
  | reservedCommand (v : Word)
  /-- One of the 437 reserved micro-operation words (30_encoding.md R60). -/
  | reservedMicroOp (u : BitVec 9)
  deriving DecidableEq, Repr

/-- Field `code = v[7:0]` of a command word (30_encoding.md R51). -/
def cmdCode (v : Word) : BitVec 8 := v.extractLsb' 0 8

/-- Field `zero = v[63:8]` of a command word (30_encoding.md R51). -/
def cmdZero (v : Word) : BitVec 56 := v.extractLsb' 8 56

/-- The command decoder (30_encoding.md R51 to R53). -/
def decodeCmd (v : Word) : Except Reject Instr :=
  if cmdZero v = 0 then
    if cmdCode v = 0x00 then .ok .nop
    else if cmdCode v = 0x01 then .ok .start
    else .error (.reservedCommand v)
  else .error (.reservedCommand v)

/-- Field `op = u[8:7]` (30_encoding.md R54). -/
def uopOp (u : BitVec 9) : BitVec 2 := u.extractLsb' 7 2

/-- Field `rot = u[6:5]` (30_encoding.md R54). -/
def uopRot (u : BitVec 9) : BitVec 2 := u.extractLsb' 5 2

/-- Field `widx = u[4:2]` (30_encoding.md R54). -/
def uopWidx (u : BitVec 9) : BitVec 3 := u.extractLsb' 2 3

/-- Field `msel = u[1:0]` (30_encoding.md R54). -/
def uopMsel (u : BitVec 9) : BitVec 2 := u.extractLsb' 0 2

/-- Bits `u[6:0]`, which must be zero in LOAD, KSCHED and FOLD (30_encoding.md R54, R60). -/
def uopOperands (u : BitVec 9) : BitVec 7 := u.extractLsb' 0 7

/-- The micro-operation decoder (30_encoding.md R54, R55, R60). -/
def decodeUop (u : BitVec 9) : Except Reject Instr :=
  if uopOp u = 0b01 then
    if uopRot u = 3 ∨ uopMsel u = 3 then .error (.reservedMicroOp u)
    else .ok (.round (uopRot u) (uopWidx u) (uopMsel u))
  else if uopOperands u = 0 then
    if uopOp u = 0b00 then .ok .load
    else if uopOp u = 0b10 then .ok .ksched
    else .ok .fold
  else .error (.reservedMicroOp u)

/-- The decoder of both spaces. -/
def decode : Code → Except Reject Instr
  | .cmd v => decodeCmd v
  | .uop u => decodeUop u

/-- The numeric value of a ROUND word, `0x080 + 32*rot + 4*widx + msel` (30_encoding.md R55). -/
def roundWord (rot : BitVec 2) (widx : BitVec 3) (msel : BitVec 2) : BitVec 9 :=
  0x080 + 32 * rot.setWidth 9 + 4 * widx.setWidth 9 + msel.setWidth 9

/-- The word of an operation (30_encoding.md R52, R55). -/
def encode : Instr → Code
  | .nop => .cmd 0x0000000000000000
  | .start => .cmd 0x0000000000000001
  | .load => .uop 0x000
  | .round rot widx msel => .uop (roundWord rot widx msel)
  | .ksched => .uop 0x100
  | .fold => .uop 0x180

/-- The operation, if the decoder accepts the word. -/
def accepted (r : Except Reject Instr) : Option Instr :=
  match r with
  | .ok i => some i
  | .error _ => none

/-- What the decoder reads from the opcode table's word `w` of a row of `nbits` bits in whole bytes: the 9-bit rows
(format UOP) have at most 16, the 64-bit rows (format CMD) more (log 11). A word too wide for its format is none. -/
def decodeTableWord (nbits w : Nat) : Option Instr :=
  if nbits ≤ 16 then
    if w < 2 ^ 9 then accepted (decode (.uop (BitVec.ofNat 9 w))) else none
  else
    if w < 2 ^ 64 then accepted (decode (.cmd (BitVec.ofNat 64 w))) else none

end Sys2Proof
end

