-- ==== Sys2Proof/Machine/Window.lean ====
section
/-! DEFINITION. The register window: which accesses are valid, reads, writes and their errors (20_memory.md R31, R34 to R38,
60_exceptions.md R131 to R136). -/

namespace Sys2Proof.Machine

/-- Offset of `CMD` (20_memory.md R31). -/
def offCmd : Nat := 0x58

/-- Offset of `STATUS` (20_memory.md R31). -/
def offStatus : Nat := 0x60

/-- Offset of `H[j]` (20_memory.md R31). -/
def offH (j : Fin 3) : Nat := 0x40 + 8 * j

/-- A well-formed access (20_memory.md R34, conditions 1 to 6). -/
def wellFormed (off n : Nat) : Bool :=
  (n == 1 || n == 2 || n == 4 || n == 8) && off % n == 0 && off + n ≤ 0x80 &&
    (off < 0x40 || (off < 0x68 && n == 8))

/-- A write that is no bad access: well-formed and not to `STATUS` (20_memory.md R34). -/
def writable (off n : Nat) : Bool := wellFormed off n && off < offStatus

/-- The value a well-formed read returns, extended with zeros to 64 bits (20_memory.md R36). -/
def readValue (off n : Nat) (s : State) : Word :=
  if off < 0x40 then blockValue s.blk off n
  else if off = offH 0 then s.h[0]
  else if off = offH 1 then s.h[1]
  else if off = offH 2 then s.h[2]
  else if off = offStatus then statusWord s
  else 0

/-- `MemRead(off, n)` (60_exceptions.md R136): a bad read returns zero and raises `ERR_ACC` (20_memory.md R35); a well-formed
read has no side effect (R36). -/
def hostRead (off n : Nat) (s : State) : Result :=
  .next (if wellFormed off n then s.reply (readValue off n s) else (raiseErr .acc s).reply 0)

/-- A command word written to `CMD` while idle: decoded and run, a reserved one raises `ERR_CMD` (30_encoding.md R51 to R53). -/
def hostCommand (run : Instr → State → Result) (v : Word) (s : State) : Result :=
  match decodeCmd v with
  | .ok i => run i s
  | .error _ => .next (raiseErr .cmd s)

/-- The effect of a writable write while idle (20_memory.md R37). -/
def performWrite (run : Instr → State → Result) (off n : Nat) (v : Word) (s : State) : Result :=
  if off < 0x40 then .next (s.setBlk (storeBytes s.blk off n v))
  else if off = offH 0 then .next (s.setH (s.h.set 0 v))
  else if off = offH 1 then .next (s.setH (s.h.set 1 v))
  else if off = offH 2 then .next (s.setH (s.h.set 2 v))
  else hostCommand run v s

/-- `MemWrite(off, n, v)`, with the priority of 60_exceptions.md R136: `ERR_ACC`, then `ERR_BUSY`, then `ERR_CMD`. -/
def hostWrite (run : Instr → State → Result) (off n : Nat) (v : Word) (s : State) : Result :=
  if writable off n then
    if s.busy then .next (raiseErr .busy s) else performWrite run off n v s
  else .next (raiseErr .acc s)

/-- One host access. -/
def hostAccess (run : Instr → State → Result) : Access → State → Result
  | .read off n, s => hostRead off n s
  | .write off n v, s => hostWrite run off n v s

/-- A bad access (20_memory.md R34): the ones that raise `ERR_ACC` (60_exceptions.md R134). -/
def Access.bad : Access → Bool
  | .read off n => !wellFormed off n
  | .write off n _ => !writable off n

/-- A well-formed write to `BLK`, `H` or `CMD`: the accesses that raise `ERR_BUSY` while busy (60_exceptions.md R132). -/
def Access.storing : Access → Bool
  | .read _ _ => false
  | .write off n _ => writable off n

end Sys2Proof.Machine
end

