-- ==== Sys2Proof/Machine/Sequencer.lean ====
section
/-! DEFINITION. Component 3, the pass sequencer and the control flow of the engine (42_pass_sequencer.md R95 to R99): the
microprogram (30_encoding.md R58), the engine's step, and whose turn it is. -/

namespace Sys2Proof.Machine

/-- The words of `MP[1..28]` (30_encoding.md R58, the column "word u"). -/
def microprogram : List (BitVec 9) :=
  [0x000#9,
   0x080#9, 0x0A4#9, 0x0C8#9, 0x08C#9, 0x0B0#9, 0x0D4#9, 0x098#9, 0x0BC#9,
   0x100#9,
   0x0C1#9, 0x085#9, 0x0A9#9, 0x0CD#9, 0x091#9, 0x0B5#9, 0x0D9#9, 0x09D#9,
   0x100#9,
   0x0A2#9, 0x0C6#9, 0x08A#9, 0x0AE#9, 0x0D2#9, 0x096#9, 0x0BA#9, 0x0DE#9,
   0x180#9]

/-- The word `MP[s]` issued when `SEQ = s`; `MP[0]` does not exist, nor do `MP[29..31]` (30_encoding.md R58, 10_state.md R14). -/
def microWord (seq : BitVec 5) : Option (BitVec 9) :=
  if seq = 0 then none else microprogram[seq.toNat - 1]?

/-- `SEQ` holds one of its legal values 0..28 (10_state.md R14). -/
def legalSeq (seq : BitVec 5) : Bool := seq.toNat ≤ 28

/-- The engine's turn (42_pass_sequencer.md R95, R97): while `SEQ` is in 1..28, decode `MP[SEQ]` and execute it; while idle the
engine has no enabled step and the state stays (log 6). A reserved word (30_encoding.md R60) and a state with an illegal
`SEQ` (10_state.md R14) are refused. -/
def engineTurn (run : Instr → State → Result) (s : State) : Result :=
  match microWord s.seq with
  | some u =>
    match decodeUop u with
    | .ok i => run i s
    | .error _ => .refused .reservedMicroOp
  | none => if s.busy then .refused .illegalSeq else .next s

/-- One turn (20_memory.md R39, R40). Reset may occur in any state (70_reset_and_hazards.md R150); a state with an illegal `SEQ`
is refused otherwise (10_state.md R14; log 10). -/
def takeTurn (run : Instr → State → Result) : Turn → State → Result
  | .engine, s => engineTurn run s
  | .host a, s => if legalSeq s.seq then hostAccess run a s else .refused .illegalSeq
  | .reset, s => .next (resetEvent s)

/-- The next turn and the turns after it; when none is left the engine has the turn (log 6). -/
def nextTurn (s : State) : Turn × State :=
  match s.turns with
  | [] => (.engine, s)
  | t :: ts => (t, s.setTurns ts)

/-- The first `SEQ` at which the microprogram issues the word `u`, if any does. -/
def seqIssuing (u : BitVec 9) : Option (BitVec 5) :=
  (microprogram.findIdx? (· == u)).map fun k => BitVec.ofNat 5 (k + 1)

/-- Place a micro-operation word where the engine issues it next: the engine gets the next turn and `SEQ` the index of the word.
A word the microprogram does not hold is issued in no state (30_encoding.md R60), so the state stays (log 11). -/
def placeMicroOp (u : BitVec 9) (s : State) : State :=
  match seqIssuing u with
  | some q => (s.setSeq q).setTurns (.engine :: s.turns)
  | none => s

/-- Place a command word as the host's next access, an 8-byte write to `CMD` (30_encoding.md R51; log 11). -/
def placeCommand (v : Word) (s : State) : State := s.setTurns (.host (.write offCmd 8 v) :: s.turns)

end Sys2Proof.Machine
end

