-- ==== Sys2Proof/Machine/Step.lean ====
section
/-! DEFINITION. One step of the machine: the agent whose turn it is makes one atomic move (20_memory.md R39, R40). -/

namespace Sys2Proof.Machine

/-- One step: take the next turn, running operations by `exec`. -/
def step (s : State) : Host.Outcome State Fault Refusal :=
  takeTurn exec (nextTurn s).1 (nextTurn s).2

/-- `s` with the opcode table's word `w` of a row of `nbits` bits placed where the next step takes it (log 11). -/
def State.withFetchWord (s : State) (nbits w : Nat) : State :=
  if nbits ≤ 16 then placeMicroOp (BitVec.ofNat 9 w) s else placeCommand (BitVec.ofNat 64 w) s

end Sys2Proof.Machine
end

