-- ==== Sys2Proof/Safety.lean ====
section
/-! DEFINITION. What counts as a good state and a safe run, in the terms the claims use. -/

namespace Sys2Proof.Machine

/-- The state invariant of 10_state.md R20: `SEQ` is in 0..28, and `BUSY` and `DONE` are not both 1. The rest of R20 (three
words, 64 bytes, eight words, byte indices) holds by the types of State. -/
abbrev State.Inv (s : State) : Prop := s.seq.toNat ≤ 28 ∧ ¬ (s.busy = true ∧ s.done = true)

/-- No host access has been refused since the last reset (60_exceptions.md R137). -/
abbrev State.Clean (s : State) : Prop := s.errBusy = false ∧ s.errCmd = false ∧ s.errAcc = false

/-- Everything the engine and the host can tell two states apart by: all but the hidden data registers `X` and `R`
(10_state.md R12, R13, 20_memory.md R30). -/
abbrev State.SameVisible (s t : State) : Prop :=
  s.h = t.h ∧ s.blk = t.blk ∧ s.seq = t.seq ∧ s.done = t.done ∧ s.errBusy = t.errBusy ∧ s.errCmd = t.errCmd ∧
    s.errAcc = t.errAcc ∧ s.rom = t.rom ∧ s.turns = t.turns ∧ s.replies = t.replies ∧ s.draws = t.draws

/-- Two states agree on control: everything but data (`H`, `BLK`, `X`, `R`, the ROM and the values reads returned)
(00_scope.md R8). -/
abbrev State.SameControl (s t : State) : Prop :=
  s.seq = t.seq ∧ s.done = t.done ∧ s.errBusy = t.errBusy ∧ s.errCmd = t.errCmd ∧ s.errAcc = t.errAcc ∧
    s.turns = t.turns ∧ s.draws = t.draws

/-- `k` steps of the machine, stopping at the first fault or refusal. -/
def runSteps (k : Nat) (s : State) : Host.Outcome State Fault Refusal := Host.Core.run Sys2Proof.core k s

/-- The three registers in the role order (a, b, c) that round number `g` of a block gives them
(42_pass_sequencer.md R94). -/
def rolesAt (g : Nat) (r : Vector Word 3) : Vector Word 3 := #v[r[g % 3], r[(g + 1) % 3], r[(g + 2) % 3]]

/-- The eight rounds of one pass on the registers themselves, the first being round number `g` of the block: the round of word
`i` has role a at register `(g + i) mod 3` (42_pass_sequencer.md R94). -/
def roundsFrom (rom : Rom) (g : Nat) (x : Vector Word 8) (mul : Word) (r : Vector Word 3) : Vector Word 3 :=
  (List.finRange 8).foldl (fun q (i : Fin 8) => roundAt rom (Fin.ofNat 3 (g + i)) x[i] mul q) r

end Sys2Proof.Machine
end

