-- ==== Sys2Proof/Certificates/Slice0/Obligations.lean ====
section
/-! DEFINITION. The statements for the provers. Each docstring names the rule of spec/ it formalises. -/

open Sys2Proof Sys2Proof.Machine

/-! ## Encodings (30_encoding.md) -/

/-- R52: NOP is the word 0 and START the word 1, matched under the full mask. -/
def Obligations.CommandTable : Prop :=
  (∀ v : Word, decodeCmd v = .ok .nop ↔ v &&& 0xFFFFFFFFFFFFFFFF = 0x0000000000000000) ∧
  (∀ v : Word, decodeCmd v = .ok .start ↔ v &&& 0xFFFFFFFFFFFFFFFF = 0x0000000000000001)

/-- R55: the micro-operation table, each row by its match, mask and extra condition, and the numeric value of a ROUND word. -/
def Obligations.MicroOperationTable : Prop :=
  (∀ u : BitVec 9, decodeUop u = .ok .load ↔ u &&& 0x1FF = 0x000) ∧
  (∀ u : BitVec 9, decodeUop u = .ok .ksched ↔ u &&& 0x1FF = 0x100) ∧
  (∀ u : BitVec 9, decodeUop u = .ok .fold ↔ u &&& 0x1FF = 0x180) ∧
  (∀ u : BitVec 9, (∃ rot widx msel, decodeUop u = .ok (.round rot widx msel)) ↔
    u &&& 0x180 = 0x080 ∧ u.extractLsb' 5 2 ≠ 3 ∧ u.extractLsb' 0 2 ≠ 3) ∧
  (∀ (u : BitVec 9) (rot : BitVec 2) (widx : BitVec 3) (msel : BitVec 2),
    decodeUop u = .ok (.round rot widx msel) ↔
      u.toNat = 0x080 + 32 * rot.toNat + 4 * widx.toNat + msel.toNat ∧ rot ≠ 3 ∧ msel ≠ 3)

/-- 30_encoding.md sections 2 and 3: decode and encode agree in both directions, over all operations and all words of both
spaces. -/
def Obligations.DecodeEncodeAgree : Prop :=
  (∀ i : Instr, i.wf = true → decode (encode i) = .ok i) ∧
  (∀ (c : Code) (i : Instr), decode c = .ok i → i.wf = true ∧ encode i = c)

/-- Words written out bit by bit from 30_encoding.md R52, R54, R55 (and 95_test_vectors.md 7.1, 7.2) decode to the operation
they stand for, and reserved ones to none. -/
def Obligations.WordsOfTheSpecDecode : Prop :=
  decode (.cmd 0) = .ok .nop ∧ decode (.cmd 1) = .ok .start ∧
  decode (.cmd 0x100) = .error (.reservedCommand 0x100) ∧
  decode (.uop 0b00_00_000_00) = .ok .load ∧
  decode (.uop 0b01_01_001_00) = .ok (.round 1 1 0) ∧
  decode (.uop 0b01_10_111_10) = .ok (.round 2 7 2) ∧
  decode (.uop 0b10_00_000_00) = .ok .ksched ∧
  decode (.uop 0b11_00_000_00) = .ok .fold ∧
  decode (.uop 0b01_11_000_00) = .error (.reservedMicroOp 0b01_11_000_00) ∧
  decode (.uop 0b10_00_001_00) = .error (.reservedMicroOp 0b10_00_001_00)

/-- 30_encoding.md section 3 (R60): 75 of the 512 micro-operation words are defined and 437 reserved; the microprogram holds
defined words only, 24 of them distinct ROUND words; a ROUND with a reserved operand is refused, in every state. -/
def Obligations.ReservedMicroOperations : Prop :=
  ((List.range 512).countP fun n => (accepted (decodeUop (BitVec.ofNat 9 n))).isSome) = 75 ∧
  ((List.range 512).countP fun n => decodeUop (BitVec.ofNat 9 n) == .error (.reservedMicroOp (BitVec.ofNat 9 n))) = 437 ∧
  (∀ u ∈ microprogram, ∃ i, decodeUop u = .ok i) ∧
  ((microprogram.dedup.countP fun u => u &&& 0x180 == 0x080) = 24) ∧
  (∀ rot widx msel s, rot = 3 ∨ msel = 3 → exec (.round rot widx msel) s = .refused .reservedMicroOp)

/-- R56, R57: the multiplier of each `msel`, also in closed form and as the pass number of the microprogram (words at
`SEQ = 2 + 9p + i`), and the register of each role of each `rot`; 3 is reserved in both. -/
def Obligations.RoundOperands : Prop :=
  (mulOf 0 = some 5 ∧ mulOf 1 = some 7 ∧ mulOf 2 = some 9 ∧ mulOf 3 = none) ∧
  (∀ msel : BitVec 2, msel ≠ 3 → mulOf msel = some (BitVec.ofNat 64 (2 * msel.toNat + 5))) ∧
  (∀ p i : Nat, p < 3 → i < 8 →
    ((microWord (BitVec.ofNat 5 (2 + 9 * p + i))).map fun u => u.extractLsb' 0 2) = some (BitVec.ofNat 2 p)) ∧
  (rotIndex 0 = some 0 ∧ rotIndex 1 = some 1 ∧ rotIndex 2 = some 2 ∧ rotIndex 3 = none) ∧
  (∀ (rom : Rom) (rot : Fin 3) (x mul : Word) (r : Vector Word 3),
    let out := roundFn rom r[rot.val] r[(rot.val + 1) % 3] r[(rot.val + 2) % 3] x mul
    let r' := roundAt rom rot x mul r
    r'[rot.val] = out.1 ∧ r'[(rot.val + 1) % 3] = out.2.1 ∧ r'[(rot.val + 2) % 3] = out.2.2) ∧
  (∀ u : BitVec 9, u &&& 0x180 = 0x080 → u.extractLsb' 5 2 = 3 ∨ u.extractLsb' 0 2 = 3 →
    decodeUop u = .error (.reservedMicroOp u))

/-- R58: the 28 entries of the microprogram, as words and decoded; `MP[0]` does not exist. -/
def Obligations.MicroprogramTable : Prop :=
  microWord 0 = none ∧
  ((List.range 28).map fun k => microWord (BitVec.ofNat 5 (k + 1))) =
    ([0x000, 0x080, 0x0A4, 0x0C8, 0x08C, 0x0B0, 0x0D4, 0x098, 0x0BC, 0x100, 0x0C1, 0x085, 0x0A9, 0x0CD, 0x091, 0x0B5, 0x0D9,
      0x09D, 0x100, 0x0A2, 0x0C6, 0x08A, 0x0AE, 0x0D2, 0x096, 0x0BA, 0x0DE, 0x180] : List (BitVec 9)).map some ∧
  ((List.range 28).map fun k => (microWord (BitVec.ofNat 5 (k + 1))).bind fun u => accepted (decodeUop u)) =
    [some .load,
     some (.round 0 0 0), some (.round 1 1 0), some (.round 2 2 0), some (.round 0 3 0),
     some (.round 1 4 0), some (.round 2 5 0), some (.round 0 6 0), some (.round 1 7 0),
     some .ksched,
     some (.round 2 0 1), some (.round 0 1 1), some (.round 1 2 1), some (.round 2 3 1),
     some (.round 0 4 1), some (.round 1 5 1), some (.round 2 6 1), some (.round 0 7 1),
     some .ksched,
     some (.round 1 0 2), some (.round 2 1 2), some (.round 0 2 2), some (.round 1 3 2),
     some (.round 2 4 2), some (.round 0 5 2), some (.round 1 6 2), some (.round 2 7 2),
     some .fold]

/-- 30_encoding.md section 3 (R59, marked derived there): the closed form of the 24 rounds, for pass `p`, round `i`,
`g = 8p + i`: at `SEQ = 2 + 9p + i` the word of `ROUND g mod 3, i, p`. -/
def Obligations.MicroprogramClosedForm : Prop :=
  ∀ p i : Nat, p < 3 → i < 8 →
    microWord (BitVec.ofNat 5 (2 + 9 * p + i)) =
      some (roundWord (BitVec.ofNat 2 ((8 * p + i) % 3)) (BitVec.ofNat 3 i) (BitVec.ofNat 2 p))

/-- R63: the ROM address of `T(k, i)` is `k - 1` in bits 9:8 and `i` in bits 7:0, every address is one of a table, and a read
returns the table's word. -/
def Obligations.RomAddressing : Prop :=
  (∀ i : Byte, (romAddress .t1 i).toNat = i.toNat ∧ (romAddress .t2 i).toNat = 256 + i.toNat ∧
    (romAddress .t3 i).toNat = 512 + i.toNat ∧ (romAddress .t4 i).toNat = 768 + i.toNat) ∧
  (∀ addr : BitVec 10, ∃ k i, romAddress k i = addr) ∧
  (∀ (rom : Rom) (i : Byte),
    romWord rom (romAddress .t1 i) = rom.t1[i.toNat]'i.isLt ∧ romWord rom (romAddress .t2 i) = rom.t2[i.toNat]'i.isLt ∧
    romWord rom (romAddress .t3 i) = rom.t3[i.toNat]'i.isLt ∧ romWord rom (romAddress .t4 i) = rom.t4[i.toNat]'i.isLt)

/-! ## The pure functions (20_memory.md, 41 to 44) -/

/-- R33: block word `i` is the little-endian sum of bytes 8i to 8i+7, and LOAD computes exactly this; an 8-byte write of `w` at
offset 8i makes block word `i` equal `w` and no other block word changes, and the eight 1-byte writes of its bytes in any order
give the same block (the consequence the rule draws from R32). -/
def Obligations.BlockWordsLittleEndian : Prop :=
  (∀ (blk : Vector Byte 64) (i : Fin 8),
    (blockWord blk i).toNat = ∑ k : Fin 8, (blk[8 * i.val + k.val]'(by omega)).toNat * 2 ^ (8 * k.val)) ∧
  (∀ s : State, ∃ t, exec .load s = .next t ∧ ∀ i : Fin 8, t.x[i] = blockWord s.blk i) ∧
  (∀ (blk : Vector Byte 64) (i : Fin 8) (w : Word), blockWord (storeBytes blk (8 * i) 8 w) i = w ∧
    ∀ j : Fin 8, j ≠ i → blockWord (storeBytes blk (8 * i) 8 w) j = blockWord blk j) ∧
  (∀ (blk : Vector Byte 64) (i : Fin 8) (w : Word) (order : List Nat), order.Perm (List.range 8) →
    order.foldl (fun b k => storeBytes b (8 * i + k) 1 ((w.extractLsb' (8 * k) 8).setWidth 64)) blk =
      storeBytes blk (8 * i) 8 w)

/-- R80, R81, R82: the Round function. The new c is `c xor x`; its byte k is bits 8k+7:8k; a' takes bytes 0, 2, 4, 6 through
T1, T2, T3, T4 and is subtracted from a modulo 2^64; b' takes bytes 1, 3, 5, 7 through T4, T3, T2, T1 and is added to b before
the multiplication, both modulo 2^64. -/
def Obligations.RoundFunction : Prop :=
  ∀ (rom : Rom) (a b c x mul : Word),
    let n := c ^^^ x
    let pick := fun (t : Vector Word 256) (k : Nat) => t[(n.extractLsb' (8 * k) 8).toNat]'(BitVec.isLt _)
    let a' := pick rom.t1 0 ^^^ pick rom.t2 2 ^^^ pick rom.t3 4 ^^^ pick rom.t4 6
    let b' := pick rom.t4 1 ^^^ pick rom.t3 3 ^^^ pick rom.t2 5 ^^^ pick rom.t1 7
    let out := roundFn rom a b c x mul
    out.2.2 = n ∧
    out.1.toNat = (2 ^ 64 + a.toNat - a'.toNat) % 2 ^ 64 ∧
    out.2.1.toNat = (b.toNat + b'.toNat) % 2 ^ 64 * mul.toNat % 2 ^ 64

/-- 41_round_mixer.md R84, R85: for the three multipliers a round loses nothing: for fixed x it is a bijection of the three
accumulator words, whatever the ROM holds. -/
def Obligations.RoundIsBijective : Prop :=
  ∀ (rom : Rom) (x mul : Word), mul = 5 ∨ mul = 7 ∨ mul = 9 →
    Function.Bijective fun p : Word × Word × Word => roundFn rom p.1 p.2.1 p.2.2 x mul

/-- R90: Pass is eight rounds, round i with word `x[i]` and the roles `p[i mod 3]`, `p[(i+1) mod 3]`, `p[(i+2) mod 3]`. -/
def Obligations.PassFunction : Prop :=
  ∀ (rom : Rom) (p : Vector Word 3) (x : Vector Word 8) (mul : Word),
    passFn rom p x mul = (List.finRange 8).foldl (fun q (i : Fin 8) =>
      let out := roundFn rom q[i.val % 3] q[(i.val + 1) % 3] q[(i.val + 2) % 3] x[i] mul
      ((q.set (i.val % 3) out.1).set ((i.val + 1) % 3) out.2.1).set ((i.val + 2) % 3) out.2.2) p

/-- 42_pass_sequencer.md R94 (marked derived there): the call-site permutation and the in-pass rotation are one rotation.
A pass called on the registers in the role order of round number `g` gives what the rounds `g`, ..., `g + 7` of the one
rotation give on the registers themselves. -/
def Obligations.OneRotationAcrossPasses : Prop :=
  ∀ (rom : Rom) (g : Nat) (x : Vector Word 8) (mul : Word) (r : Vector Word 3),
    passFn rom (rolesAt g r) x mul = rolesAt g (roundsFrom rom g x mul r)

/-- R105: the sixteen assignments K1 to K16, in order, each seeing the results of the earlier ones (from the spec's general
knowledge, log 3). -/
def Obligations.KeyScheduleAssignments : Prop :=
  ∀ x0 x1 x2 x3 x4 x5 x6 x7 : Word,
    keySchedule #v[x0, x1, x2, x3, x4, x5, x6, x7] =
      (let x0 := x0 - (x7 ^^^ 0xA5A5A5A5A5A5A5A5)
       let x1 := x1 ^^^ x0
       let x2 := x2 + x1
       let x3 := x3 - (x2 ^^^ ((~~~x1) <<< 19))
       let x4 := x4 ^^^ x3
       let x5 := x5 + x4
       let x6 := x6 - (x5 ^^^ ((~~~x4) >>> 23))
       let x7 := x7 ^^^ x6
       let x0 := x0 + x7
       let x1 := x1 - (x0 ^^^ ((~~~x7) <<< 19))
       let x2 := x2 ^^^ x1
       let x3 := x3 + x2
       let x4 := x4 - (x3 ^^^ ((~~~x2) >>> 23))
       let x5 := x5 ^^^ x4
       let x6 := x6 + x5
       let x7 := x7 - (x6 ^^^ 0x0123456789ABCDEF)
       #v[x0, x1, x2, x3, x4, x5, x6, x7])

/-- 43_key_schedule.md R110 (marked derived there): the key schedule is a bijection on the 512-bit block. -/
def Obligations.KeyScheduleIsBijective : Prop := Function.Bijective keySchedule

/-- R113: Compress, the three passes with the registers in the orders (a,b,c), (c,a,b), (b,c,a) and the feed-forward. -/
def Obligations.CompressFunction : Prop :=
  ∀ (rom : Rom) (h p q t : Vector Word 3) (blk : Vector Byte 64) (x x' x'' : Vector Word 8),
    (∀ i : Fin 8, x[i].toNat =
      ∑ k : Fin 8, (blk[8 * i.val + k.val]'(by omega)).toNat * 2 ^ (8 * k.val)) →
    p = passFn rom #v[h[0], h[1], h[2]] x 5 → x' = keySchedule x →
    q = passFn rom #v[p[2], p[0], p[1]] x' 7 → x'' = keySchedule x' →
    t = passFn rom #v[q[2], q[0], q[1]] x'' 9 →
    compress rom h blk = #v[h[0] ^^^ t[2], t[0] - h[1], t[1] + h[2]]

/-! ## The operations: result, frame and completion -/

/-- R117: NOP changes nothing while idle and sets `ERR_BUSY` alone while busy. -/
def Obligations.NopEffect : Prop :=
  ∀ s : State, (s.seq = 0 → exec .nop s = .next s) ∧
    (s.seq ≠ 0 → exec .nop s = .next { s with errBusy := true })

/-- R116: START clears `DONE` and sets `SEQ` to 1 while idle, changing nothing else, and sets `ERR_BUSY` alone while busy. -/
def Obligations.StartEffect : Prop :=
  ∀ s : State, (s.seq = 0 → exec .start s = .next { s with done := false, seq := 1 }) ∧
    (s.seq ≠ 0 → exec .start s = .next { s with errBusy := true })

/-- R114: LOAD completes in every state, decodes all eight block words little-endian, copies `H` to `R`, moves `SEQ` on, changes
nothing else, and is issued at `SEQ = 1` only. -/
def Obligations.LoadEffect : Prop :=
  (∀ s : State, ∃ t, exec .load s = .next t ∧
    (∀ i : Fin 8, t.x[i].toNat =
      ∑ k : Fin 8, (s.blk[8 * i.val + k.val]'(by omega)).toNat * 2 ^ (8 * k.val)) ∧
    t.r = s.h ∧ t.seq = s.seq + 1 ∧
    t = { s with x := t.x, r := t.r, seq := t.seq }) ∧
  (∀ q : BitVec 5, (∃ u, microWord q = some u ∧ decodeUop u = .ok .load) ↔ q = 1)

/-- R83: ROUND with legal operands completes in every state: with `ia = rot`, `ib = rot + 1 mod 3`, `ic = rot + 2 mod 3` and
`mul = 2*msel + 5`, the three registers become the three results of Round on their old values and `X[widx]`, `SEQ` moves on,
and nothing else changes. -/
def Obligations.RoundEffect : Prop :=
  ∀ (s : State) (rot : BitVec 2) (widx : BitVec 3) (msel : BitVec 2), rot ≠ 3 → msel ≠ 3 →
    let ia := rot.toNat % 3
    let ib := (rot.toNat + 1) % 3
    let ic := (rot.toNat + 2) % 3
    let out := roundFn s.rom (s.r[ia]'(Nat.mod_lt _ (by decide))) (s.r[ib]'(Nat.mod_lt _ (by decide)))
      (s.r[ic]'(Nat.mod_lt _ (by decide))) (s.x[widx.toNat]'widx.isLt) (BitVec.ofNat 64 (2 * msel.toNat + 5))
    ∃ t, exec (.round rot widx msel) s = .next t ∧
      t.r[ia]'(Nat.mod_lt _ (by decide)) = out.1 ∧ t.r[ib]'(Nat.mod_lt _ (by decide)) = out.2.1 ∧
      t.r[ic]'(Nat.mod_lt _ (by decide)) = out.2.2 ∧ t.seq = s.seq + 1 ∧
      t = { s with r := t.r, seq := t.seq }

/-- R109: KSCHED completes in every state, rewrites `X` by the key schedule, moves `SEQ` on, changes nothing else, and is issued
at `SEQ = 10` and `SEQ = 19` only. -/
def Obligations.KschedEffect : Prop :=
  (∀ s : State, exec .ksched s = .next { s with x := keySchedule s.x, seq := s.seq + 1 }) ∧
  (∀ q : BitVec 5, (∃ u, microWord q = some u ∧ decodeUop u = .ok .ksched) ↔ q = 10 ∨ q = 19)

/-- R115: FOLD completes in every state, writes `H[0] xor R[0]`, `R[1] - H[1]`, `R[2] + H[2]` modulo 2^64, `DONE` and `SEQ` in
one step, changes nothing else, and is issued at `SEQ = 28` only. -/
def Obligations.FoldEffect : Prop :=
  (∀ s : State, ∃ t, exec .fold s = .next t ∧
    t.h[0] = s.h[0] ^^^ s.r[0] ∧
    t.h[1].toNat = (2 ^ 64 + s.r[1].toNat - s.h[1].toNat) % 2 ^ 64 ∧
    t.h[2].toNat = (s.r[2].toNat + s.h[2].toNat) % 2 ^ 64 ∧
    t.done = true ∧ t.seq = 0 ∧
    t = { s with h := t.h, done := t.done, seq := t.seq }) ∧
  (∀ q : BitVec 5, (∃ u, microWord q = some u ∧ decodeUop u = .ok .fold) ↔ q = 28)

/-! ## The register window (20_memory.md, 60_exceptions.md) -/

/-- R34: which accesses are well-formed and which writes are bad; a bad access is not performed in part. -/
def Obligations.WellFormedAccesses : Prop :=
  (∀ off n : Nat, wellFormed off n = true ↔
    (n = 1 ∨ n = 2 ∨ n = 4 ∨ n = 8) ∧ off % n = 0 ∧ off + n ≤ 0x80 ∧
      (0x40 ≤ off → off < 0x68 → n = 8) ∧ off < 0x68) ∧
  (∀ (off n : Nat) (v : Word), (Access.read off n).bad = !wellFormed off n ∧
    ((Access.write off n v).bad = false ↔ wellFormed off n = true ∧ off ≠ 0x60)) ∧
  (∀ (s : State) (ts : List Turn) (a : Access), s.seq.toNat ≤ 28 → s.turns = .host a :: ts → a.bad = true →
    ∃ t, step s = .next t ∧ t.blk = s.blk ∧ t.h = s.h ∧ t.seq = s.seq)

/-- R35: a bad access sets `ERR_ACC` and changes no other register, busy or not; a bad read returns zero. -/
def Obligations.BadAccessEffect : Prop :=
  ∀ (s : State) (ts : List Turn), s.seq.toNat ≤ 28 →
    (∀ off n, s.turns = .host (.read off n) :: ts → wellFormed off n = false →
      step s = .next { s with turns := ts, errAcc := true, replies := s.replies ++ [0] }) ∧
    (∀ off n v, s.turns = .host (.write off n v) :: ts → wellFormed off n = false ∨ off = 0x60 →
      step s = .next { s with turns := ts, errAcc := true })

/-- R36: a well-formed read, idle or busy, returns the bytes of `BLK` little-endian, the word of `H`, zero for `CMD`, the value of
`STATUS`, and has no other effect. -/
def Obligations.ReadEffect : Prop :=
  ∀ (s : State) (ts : List Turn) (off n : Nat), s.seq.toNat ≤ 28 → s.turns = .host (.read off n) :: ts →
    wellFormed off n = true →
    ∃ v, step s = .next { s with turns := ts, replies := s.replies ++ [v] } ∧
      (off < 0x40 → ∀ k : Nat, v.extractLsb' (8 * k) 8 =
        if h : k < n ∧ off + k < 64 then s.blk[off + k]'h.2 else 0) ∧
      (∀ j : Fin 3, off = 0x40 + 8 * j.val → v = s.h[j]) ∧
      (off = 0x58 → v = 0) ∧ (off = 0x60 → v = statusWord s)

/-- R37: a well-formed write while idle stores exactly the addressed bytes of `BLK`, the addressed word of `H`, or runs the
command word. -/
def Obligations.WriteEffect : Prop :=
  ∀ (s : State) (ts : List Turn) (off n : Nat) (v : Word), s.seq = 0 → s.turns = .host (.write off n v) :: ts →
    wellFormed off n = true → off ≠ 0x60 →
    (off < 0x40 → ∃ t, step s = .next t ∧
      (∀ i : Fin 64, t.blk[i] =
        if off ≤ i.val ∧ i.val < off + n then v.extractLsb' (8 * (i.val - off)) 8 else s.blk[i]) ∧
      t = { s with turns := ts, blk := t.blk }) ∧
    (∀ j : Fin 3, off = 0x40 + 8 * j.val → step s = .next { s with turns := ts, h := s.h.set j v }) ∧
    (off = 0x58 → step s = match decodeCmd v with
      | .ok i => exec i { s with turns := ts }
      | .error _ => .next { s with turns := ts, errCmd := true })

/-- R38: a well-formed write to `BLK`, `H` or `CMD` while busy sets `ERR_BUSY` and changes nothing else, whatever the value. -/
def Obligations.WriteWhileBusyRefused : Prop :=
  ∀ (s : State) (ts : List Turn) (off n : Nat) (v : Word), s.seq ≠ 0 → s.seq.toNat ≤ 28 →
    s.turns = .host (.write off n v) :: ts → wellFormed off n = true → off ≠ 0x60 →
    step s = .next { s with turns := ts, errBusy := true }

/-- R53: every other command word is reserved; written while idle it sets `ERR_CMD` alone, written while busy `ERR_BUSY` alone. -/
def Obligations.ReservedCommand : Prop :=
  ∀ v : Word, v ≠ 0 → v ≠ 1 →
    decodeCmd v = .error (.reservedCommand v) ∧
    ∀ (s : State) (ts : List Turn), s.turns = .host (.write 0x58 8 v) :: ts →
      (s.seq = 0 → step s = .next { s with turns := ts, errCmd := true }) ∧
      (s.seq ≠ 0 → s.seq.toNat ≤ 28 → step s = .next { s with turns := ts, errBusy := true })

/-- R136: the priority of the errors, as one decision on every access. -/
def Obligations.ErrorPriority : Prop :=
  ∀ (s : State) (ts : List Turn), s.seq.toNat ≤ 28 →
    (∀ off n v, s.turns = .host (.write off n v) :: ts →
      step s =
        if wellFormed off n = false ∨ 0x60 ≤ off then .next { s with turns := ts, errAcc := true }
        else if s.seq ≠ 0 then .next { s with turns := ts, errBusy := true }
        else if off = 0x58 ∧ v ≠ 0 ∧ v ≠ 1 then .next { s with turns := ts, errCmd := true }
        else performWrite exec off n v { s with turns := ts }) ∧
    (∀ off n, s.turns = .host (.read off n) :: ts →
      step s =
        if wellFormed off n = false then .next { s with turns := ts, errAcc := true, replies := s.replies ++ [0] }
        else .next { s with turns := ts, replies := s.replies ++ [readValue off n s] })

/-- R17: `STATUS` bit by bit; it is assembled at the moment of the read and a write to it is a bad access; it is 0 after reset. -/
def Obligations.StatusBits : Prop :=
  (∀ (s : State) (i : Nat), (statusWord s).getLsbD i =
    if i = 0 then decide (s.seq ≠ 0)
    else if i = 1 then s.done
    else if i = 8 then s.errBusy
    else if i = 9 then s.errCmd
    else if i = 10 then s.errAcc
    else false) ∧
  (∀ (n : Nat) (v : Word), (Access.write 0x60 n v).bad = true) ∧
  (∀ (s : State) (ts : List Turn), s.seq.toNat ≤ 28 → s.turns = .host (.read 0x60 8) :: ts →
    step s = .next { s with turns := ts, replies := s.replies ++ [statusWord s] }) ∧
  statusWord State.reset = 0x0000000000000000

/-- R131: each error cause has the code of its `STATUS` bit minus 8 and its own flag, no engine step changes one, and only a host access raises one. -/
def Obligations.ErrorCauses : Prop :=
  (ErrCause.busy.code = 0 ∧ ErrCause.cmd.code = 1 ∧ ErrCause.acc.code = 2) ∧
  (∀ (s : State) (f : ErrCause), (statusWord s).getLsbD (8 + f.code) = s.flag f) ∧
  (∀ (s : State) (f : ErrCause), raiseErr f s =
    match f with
    | .busy => { s with errBusy := true }
    | .cmd => { s with errCmd := true }
    | .acc => { s with errAcc := true }) ∧
  (∀ (s t : State) (f : ErrCause), (nextTurn s).1 = .engine → step s = .next t → t.flag f = s.flag f) ∧
  (∀ (s t : State) (f : ErrCause), step s = .next t → s.flag f = false → t.flag f = true →
    ∃ a, (nextTurn s).1 = .host a)

/-- 60_exceptions.md section 3 (R135), 10_state.md R16: a raised flag does not stop, alter or delay the engine: its turn after
the error is its turn without the error, with the flag added. -/
def Obligations.ErrorDoesNotDisturbEngine : Prop :=
  ∀ (s t : State) (f : ErrCause), engineTurn exec s = .next t →
    engineTurn exec (raiseErr f s) = .next (raiseErr f t)

/-- R137: a set error flag stays set in every step but a reset, and a reset clears all three. -/
def Obligations.ErrorFlagsSticky : Prop :=
  (∀ (s t : State) (f : ErrCause), (nextTurn s).1 ≠ .reset → step s = .next t → s.flag f = true → t.flag f = true) ∧
  (∀ (s t : State) (f : ErrCause), (nextTurn s).1 = .reset → step s = .next t → t.flag f = false)

/-- 20_memory.md sections 2, 4 and 5: what a host wrote to the block buffer it reads back: after an `n`-byte write while idle, the
`n`-byte read of the same offset returns the low `n` bytes of the value. -/
def Obligations.ReadBackAfterWrite : Prop :=
  ∀ (s t : State) (ts : List Turn) (off n : Nat) (v : Word), s.seq = 0 → off < 0x40 → wellFormed off n = true →
    s.turns = .host (.write off n v) :: .host (.read off n) :: ts → runSteps 2 s = .next t →
    t.replies = s.replies ++ [BitVec.ofNat 64 (v.toNat % 2 ^ (8 * n))]

/-! ## Control (42_pass_sequencer.md, 70_reset_and_hazards.md) -/

/-- A step runs the decoded operation (42_pass_sequencer.md R95, 30_encoding.md R50 to R52): on the engine's turn the word `MP[SEQ]`,
on a host's 8-byte write to `CMD` the command word, each on the state whose turn has been taken. -/
def Obligations.StepRunsDecodedOperation : Prop :=
  (∀ (s : State) (u : BitVec 9) (i : Instr), s.turns = [] → microWord s.seq = some u → decodeUop u = .ok i →
    step s = exec i s) ∧
  (∀ (s : State) (ts : List Turn) (u : BitVec 9) (i : Instr), s.turns = .engine :: ts → microWord s.seq = some u →
    decodeUop u = .ok i → step s = exec i { s with turns := ts }) ∧
  (∀ (s : State) (ts : List Turn) (v : Word) (i : Instr), s.seq.toNat ≤ 28 →
    s.turns = .host (.write 0x58 8 v) :: ts → decodeCmd v = .ok i → step s = exec i { s with turns := ts })

/-- R95: while `SEQ` is in 1..28 the engine's turn is always enabled and moves `SEQ` to `SEQ + 1`, from 28 to 0. -/
def Obligations.EngineSequencing : Prop :=
  ∀ s : State, (nextTurn s).1 = .engine → s.seq ≠ 0 → s.seq.toNat ≤ 28 →
    ∃ t u i, step s = .next t ∧ microWord s.seq = some u ∧ decodeUop u = .ok i ∧
      step s = exec i (nextTurn s).2 ∧ t.seq = if s.seq = 28 then 0 else s.seq + 1

/-- R96: the only way out of idle is an accepted START, and it leads to `SEQ = 1`. -/
def Obligations.OnlyStartLeavesIdle : Prop :=
  ∀ s t : State, s.seq = 0 → step s = .next t → t.seq ≠ 0 →
    t.seq = 1 ∧ ∃ ts, s.turns = .host (.write 0x58 8 1) :: ts

/-- 42_pass_sequencer.md section 2 says of an idle engine only that it has no enabled step, so that the state changes through
host accesses and reset alone. That a turn of the idle engine exists, goes on and leaves every register is the model's own choice,
DEDUCED (log 6): a stutter in place of no step. -/
def Obligations.IdleEngineHasNoStep : Prop :=
  ∀ s : State, s.seq = 0 → (nextTurn s).1 = .engine → step s = .next { s with turns := s.turns.tail }

/-- R130: no micro-operation raises an exception, trap or fault, for any value of any register, and none sets an error flag; at run
time the engine meets no illegal word: its turn always has a next state, and in no state whatever does it fault.
That the turn of an idle engine (`SEQ = 0`) goes on is the model's stutter (log 6). -/
def Obligations.MicroOperationsNeverFail : Prop :=
  (∀ (s : State) (i : Instr), i.wf = true → i ≠ .nop → i ≠ .start →
    ∃ t, exec i s = .next t ∧ t.errBusy = s.errBusy ∧ t.errCmd = s.errCmd ∧ t.errAcc = s.errAcc) ∧
  (∀ s : State, s.seq.toNat ≤ 28 → ∃ t, engineTurn exec s = .next t) ∧
  (∀ s : State, (∃ t, engineTurn exec s = .next t) ∨ ∃ r, engineTurn exec s = .refused r)

/-- R8: control never depends on data: two states that agree on control, whatever they hold in `H`, `BLK`, `X`, `R` and the ROM,
make the same step: both go on, agreeing on control again, or both are refused for the same reason. -/
def Obligations.ControlIndependentOfData : Prop :=
  ∀ s s' : State, s.SameControl s' →
    (∃ t t', step s = .next t ∧ step s' = .next t' ∧ t.SameControl t') ∨
    (∃ r, step s = .refused r ∧ step s' = .refused r)

/-- R100: from any state with `SEQ = q` in 1..28, however the host's accesses interleave, after `e` engine turns `SEQ = q + e`,
and after exactly `29 - q` of them `SEQ = 0` with `DONE = 1`; with no turns placed the engine gets every turn and finishes. -/
def Obligations.EveryCompressionFinishes : Prop :=
  (∀ (s : State) (ts rest : List Turn), s.seq ≠ 0 → s.seq.toNat ≤ 28 → s.turns = ts ++ rest → Turn.reset ∉ ts →
    ts.count .engine < 29 - s.seq.toNat →
    ∃ t, runSteps ts.length s = .next t ∧ t.seq.toNat = s.seq.toNat + ts.count .engine ∧ t.turns = rest) ∧
  (∀ (s : State) (ts rest : List Turn), s.seq ≠ 0 → s.seq.toNat ≤ 28 → s.turns = ts ++ .engine :: rest →
    Turn.reset ∉ ts → ts.count .engine + 1 = 29 - s.seq.toNat →
    ∃ t, runSteps (ts.length + 1) s = .next t ∧ t.seq = 0 ∧ t.done = true ∧ t.turns = rest) ∧
  (∀ s : State, s.seq ≠ 0 → s.seq.toNat ≤ 28 → s.turns = [] →
    ∃ t, runSteps (29 - s.seq.toNat) s = .next t ∧ t.seq = 0 ∧ t.done = true)

/-- 44_compress_engine.md section 4 (R118, marked derived there): from an idle state, after START and the engine's 28th turn,
whatever host accesses come in between and however they interleave, `H` is `Compress(H, BLK)` of the start, `BLK` is unchanged,
`SEQ = 0`, `DONE = 1`, `ERR_CMD` is as before, and `ERR_BUSY` and `ERR_ACC` are as before except for the host's own refused
accesses. -/
def Obligations.MachineComputesCompress : Prop :=
  ∀ (s : State) (ts rest : List Turn), s.seq = 0 →
    s.turns = .host (.write 0x58 8 1) :: (ts ++ .engine :: rest) → Turn.reset ∉ ts → ts.count .engine = 27 →
    ∃ t, runSteps (ts.length + 2) s = .next t ∧
      t.h = compress s.rom s.h s.blk ∧ t.blk = s.blk ∧ t.seq = 0 ∧ t.done = true ∧ t.errCmd = s.errCmd ∧
      (t.errBusy = true ↔ s.errBusy = true ∨ ∃ a, Turn.host a ∈ ts ∧ a.storing = true) ∧
      (t.errAcc = true ↔ s.errAcc = true ∨ ∃ a, Turn.host a ∈ ts ∧ a.bad = true) ∧
      t.rom = s.rom ∧ t.turns = rest

/-! ## State-wide rules -/

/-- R20: every step keeps the invariant: `SEQ` stays in 0..28 and `BUSY` and `DONE` are never both 1. -/
def Obligations.EveryStepKeepsInvariant : Prop := ∀ s t : State, s.Inv → step s = .next t → t.Inv

/-- 10_state.md section 8: the state after reset meets the invariant. -/
def Obligations.ResetMeetsInvariant : Prop := State.reset.Inv

/-- 93_implementation_defined.md Part 1: no state that meets the invariant lacks a successor. On the turn of an idle engine the
successor is the model's stutter (log 6). -/
def Obligations.EveryGoodStateHasSuccessor : Prop := ∀ s : State, s.Inv → ∃ t, step s = .next t

/-- 10_state.md sections 2 and 7 (R10, R11, R12, R13, R20, R23): who may write which register. In a step that is no reset: while
busy `BLK` does not change and `H` changes in the FOLD step only; the host never changes `X` or `R`, and `SEQ` only from 0
to 1; the engine never changes `BLK`. -/
def Obligations.RegisterOwnership : Prop :=
  ∀ s t : State, (nextTurn s).1 ≠ .reset → step s = .next t →
    (s.seq ≠ 0 → t.blk = s.blk ∧ (t.h = s.h ∨ (nextTurn s).1 = .engine ∧ s.seq = 28)) ∧
    ((nextTurn s).1 ≠ .engine → t.x = s.x ∧ t.r = s.r ∧ (t.seq = s.seq ∨ s.seq = 0 ∧ t.seq = 1)) ∧
    ((nextTurn s).1 = .engine → t.blk = s.blk)

/-- 10_state.md sections 2, 40_sbox_rom.md (R72): no step, a reset included, changes the ROM. -/
def Obligations.RomNeverWritten : Prop := ∀ s t : State, step s = .next t → t.rom = s.rom

/-- 10_state.md section 2 (R12, R13), 20_memory.md section 1 (R30): the working words and the accumulators cannot be observed.
Two idle states that differ only in `X` and `R` stay the same in everything else, for every schedule and any number of steps.
Where the schedule holds Reset turns, that `H` and `BLK` agree after them is the model's choice (log 4, DESIGN CHOICE, unsafe; log 5):
the n-th draw depends on the count of resets alone, which the two states share, while the spec lets two resets leave different
values. Over schedules without a reset nothing rests on that choice. -/
def Obligations.HiddenRegistersUnobservable : Prop :=
  ∀ (s s' : State) (k : Nat), s.seq = 0 → s.SameVisible s' →
    ∃ t t', runSteps k s = .next t ∧ runSteps k s' = .next t' ∧ t.SameVisible t'

/-- R150: the Reset event, in any state whatever: `SEQ`, `DONE` and the error flags become 0 and the ROM is unaffected; nothing is
said of `H`, `BLK`, `X`, `R`, which are unspecified. -/
def Obligations.ResetEventEffect : Prop :=
  ∀ (s : State) (ts : List Turn), s.turns = .reset :: ts →
    ∃ t, step s = .next t ∧ t.seq = 0 ∧ t.done = false ∧ t.errBusy = false ∧ t.errCmd = false ∧ t.errAcc = false ∧
      t.rom = s.rom

/-- 10_state.md section 8, 70_reset_and_hazards.md section 1 (R151): after reset the engine is idle, `STATUS` is 0, no flag is
set. That no turn is placed and that the ROM is the published one is the model's choice (log 2 and log 6). -/
def Obligations.ResetState : Prop :=
  State.reset.seq = 0 ∧ State.reset.done = false ∧ State.reset.Clean ∧ statusWord State.reset = 0 ∧
    State.reset.turns = [] ∧ State.reset.rom = sboxPub
end

