-- ==== Sys2Proof/Laws/Bytes.lean ====
section
/-! SUPPORT. The small lemmas of bytes and little-endian words: what a byte of a stored block, of a little-endian word and of a
block read is (20_memory.md R32, R33, R37). -/

namespace Sys2Proof.Machine

theorem byteAt_of_lt {blk : Vector Byte 64} {i : Nat} (h : i < 64) : byteAt blk i = blk[i] := by
  simp [byteAt, h]

theorem byteOf_getLsbD (v : Word) (k j : Nat) : (byteOf v k).getLsbD j = (decide (j < 8) && v.getLsbD (8 * k + j)) := by
  simp [byteOf, BitVec.getLsbD_extractLsb']

/-- Two words are equal when their eight bytes are. -/
theorem word_eq_of_bytes {v w : Word} (h : ∀ k < 8, byteOf v k = byteOf w k) : v = w := by
  apply BitVec.eq_of_getLsbD_eq
  intro i hi
  have hk := congrArg (fun b => BitVec.getLsbD b (i % 8)) (h (i / 8) (by omega))
  simp only [byteOf_getLsbD, Nat.mod_lt i (by decide : 8 > 0), decide_true, Bool.true_and] at hk
  rwa [show 8 * (i / 8) + i % 8 = i by omega] at hk

/-- Which byte of the block buffer a store leaves at an offset (20_memory.md R37). -/
theorem byteAt_storeBytes (blk : Vector Byte 64) (off n : Nat) (v : Word) (i : Nat) (hi : i < 64) :
    byteAt (storeBytes blk off n v) i = if off ≤ i ∧ i < off + n then byteOf v (i - off) else byteAt blk i := by
  simp [byteAt, hi, storeBytes]

/-- Two block buffers are equal when their bytes are. -/
theorem block_eq_of_bytes {a b : Vector Byte 64} (h : ∀ i < 64, byteAt a i = byteAt b i) : a = b := by
  ext i hi : 1
  simpa [byteAt, hi] using h i hi

/-- The bits of a little-endian word: the low byte is the first. -/
theorem leWord_cons_getLsbD (b : Byte) (bs : List Byte) (i : Nat) (hi : i < 64) :
    (leWord (b :: bs)).getLsbD i = if i < 8 then b.getLsbD i else (leWord bs).getLsbD (i - 8) := by
  have hmul : (256 : Word) * leWord bs = leWord bs <<< 8 := by
    rw [BitVec.shiftLeft_eq_mul_twoPow, BitVec.mul_comm]; rfl
  have hor : leWord (b :: bs) = b.setWidth 64 ||| (leWord bs <<< 8) := by
    rw [leWord, hmul]
    apply BitVec.add_eq_or_of_and_eq_zero
    apply BitVec.eq_of_getLsbD_eq
    intro j hj
    by_cases h8 : j < 8
    · simp [h8]
    · have : b.getLsbD j = false := BitVec.getLsbD_of_ge b j (by omega)
      simp [this]
  rw [hor]
  by_cases h8 : i < 8
  · simp [h8, hi]
  · have : b.getLsbD i = false := BitVec.getLsbD_of_ge b i (by omega)
    simp [h8, hi, this, -BitVec.getLsbD_eq_getElem]

/-- Byte `k` of a little-endian word is its `k`-th byte (20_memory.md R32). -/
theorem byteOf_leWord (bs : List Byte) (k : Nat) (hk : k < 8) : byteOf (leWord bs) k = bs.getD k 0 := by
  induction bs generalizing k with
  | nil => apply BitVec.eq_of_getLsbD_eq; intro j _; simp [byteOf_getLsbD, leWord]
  | cons b bs ih =>
    apply BitVec.eq_of_getLsbD_eq
    intro j hj
    rw [byteOf_getLsbD, leWord_cons_getLsbD _ _ _ (by omega)]
    cases k with
    | zero => simp [hj]
    | succ k =>
      have := congrArg (fun b => BitVec.getLsbD b j) (ih k (by omega))
      simp only [byteOf_getLsbD] at this
      simp [show ¬ (8 * (k + 1) + j < 8) by omega, show 8 * (k + 1) + j - 8 = 8 * k + j by omega, hj] at this ⊢
      exact this

/-- The value of a little-endian word of at most eight bytes. -/
theorem leWord_toNat (bs : List Byte) (h : bs.length ≤ 8) :
    (leWord bs).toNat = Nat.ofDigits 256 (bs.map BitVec.toNat) ∧ (leWord bs).toNat < 256 ^ bs.length := by
  induction bs with
  | nil => simp [leWord]
  | cons b bs ih =>
    obtain ⟨h1, h2⟩ := ih (by simp at h; omega)
    have hb := b.isLt
    have hpow : 256 ^ bs.length * 256 ≤ 2 ^ 64 := by
      have : 256 ^ bs.length ≤ 256 ^ 7 := Nat.pow_le_pow_right (by decide) (by simp at h; omega)
      omega
    have hv : (leWord (b :: bs)).toNat = b.toNat + 256 * (leWord bs).toNat := by
      rw [leWord]
      have h256 : (256 : Word).toNat = 256 := rfl
      simp only [BitVec.toNat_add, BitVec.toNat_mul, BitVec.toNat_setWidth, h256]
      omega
    refine ⟨by rw [hv, h1]; simp [Nat.ofDigits_cons], ?_⟩
    rw [hv, List.length_cons, Nat.pow_succ]
    omega

/-- Byte `k` of an `n`-byte block read is byte `off + k` of the block, and the bytes above are zero (20_memory.md R36). -/
theorem byteOf_blockValue (blk : Vector Byte 64) (off n k : Nat) (hk : k < 8) :
    byteOf (blockValue blk off n) k = if k < n then byteAt blk (off + k) else 0 := by
  rw [blockValue, byteOf_leWord _ _ hk]
  by_cases h : k < n <;> simp [List.getD, h]

/-- Byte `k` of block word `i` is block byte `8i + k` (20_memory.md R33). -/
theorem byteOf_blockWord (blk : Vector Byte 64) (i k : Nat) (hk : k < 8) :
    byteOf (blockWord blk i) k = byteAt blk (8 * i + k) := by
  simp [blockWord, byteOf_blockValue _ _ _ _ hk, hk]

end Sys2Proof.Machine
end

