-- ==== Sys2Proof/Laws/Codes.lean ====
section
/-! SUPPORT. The small lemmas of the decoder and the encoder. -/

namespace Sys2Proof

/-- The command decoder, by the whole word (30_encoding.md R52, R53). -/
theorem decodeCmd_eq (v : Word) :
    decodeCmd v = if v = 0 then .ok .nop else if v = 1 then .ok .start else .error (.reservedCommand v) := by
  have hz : (cmdZero v).toNat = v.toNat / 2 ^ 8 % 2 ^ 56 := by
    simp [cmdZero, BitVec.extractLsb'_toNat, Nat.shiftRight_eq_div_pow]
  have hc : (cmdCode v).toNat = v.toNat % 2 ^ 8 := by
    simp [cmdCode, BitVec.extractLsb'_toNat]
  have hv := v.isLt
  have h0 : v = 0#64 ↔ cmdZero v = 0#56 ∧ cmdCode v = 0#8 := by
    simp only [← BitVec.toNat_inj, hz, hc, BitVec.toNat_ofNat]
    omega
  have h1 : v = 1#64 ↔ cmdZero v = 0#56 ∧ cmdCode v = 1#8 := by
    simp only [← BitVec.toNat_inj, hz, hc, BitVec.toNat_ofNat]
    omega
  simp only [decodeCmd, BitVec.ofNat_eq_ofNat, h0, h1]
  by_cases hz : cmdZero v = 0#56 <;> simp [hz]

/-- The ROUND word has its four fields where 30_encoding.md R54 puts them. -/
theorem roundWord_fields (rot : BitVec 2) (widx : BitVec 3) (msel : BitVec 2) :
    uopOp (roundWord rot widx msel) = 0b01 ∧ uopRot (roundWord rot widx msel) = rot ∧
      uopWidx (roundWord rot widx msel) = widx ∧ uopMsel (roundWord rot widx msel) = msel := by
  revert rot widx msel; decide

/-- The ROUND word as a number (30_encoding.md R55). -/
theorem roundWord_toNat (rot : BitVec 2) (widx : BitVec 3) (msel : BitVec 2) :
    (roundWord rot widx msel).toNat = 0x080 + 32 * rot.toNat + 4 * widx.toNat + msel.toNat := by
  revert rot widx msel; decide

/-- A word with `op = 01` is the ROUND word of its fields. -/
theorem roundWord_of_fields (u : BitVec 9) (h : uopOp u = 0b01) :
    roundWord (uopRot u) (uopWidx u) (uopMsel u) = u := by
  revert u; decide +kernel

/-- A word with no operand bits is one of the three operations without operands, or the ROUND word of zeros. -/
theorem word_of_op (u : BitVec 9) (h : uopOperands u = 0) : u = uopOp u ++ (0 : BitVec 7) := by
  revert u; decide +kernel

end Sys2Proof
end

