-- ==== Sys2Proof/Laws/State.lean ====
section
/-! SUPPORT. One lemma per field per update of the state, so that no later proof unfolds a record update. -/

namespace Sys2Proof.Machine

variable (s : State)

/-! `State.setH` writes `h` and nothing else. -/
@[simp] theorem State.setH_h (v : Vector Word 3) : (s.setH v).h = v := rfl
@[simp] theorem State.setH_blk (v : Vector Word 3) : (s.setH v).blk = s.blk := rfl
@[simp] theorem State.setH_x (v : Vector Word 3) : (s.setH v).x = s.x := rfl
@[simp] theorem State.setH_r (v : Vector Word 3) : (s.setH v).r = s.r := rfl
@[simp] theorem State.setH_seq (v : Vector Word 3) : (s.setH v).seq = s.seq := rfl
@[simp] theorem State.setH_done (v : Vector Word 3) : (s.setH v).done = s.done := rfl
@[simp] theorem State.setH_errBusy (v : Vector Word 3) : (s.setH v).errBusy = s.errBusy := rfl
@[simp] theorem State.setH_errCmd (v : Vector Word 3) : (s.setH v).errCmd = s.errCmd := rfl
@[simp] theorem State.setH_errAcc (v : Vector Word 3) : (s.setH v).errAcc = s.errAcc := rfl
@[simp] theorem State.setH_rom (v : Vector Word 3) : (s.setH v).rom = s.rom := rfl
@[simp] theorem State.setH_turns (v : Vector Word 3) : (s.setH v).turns = s.turns := rfl
@[simp] theorem State.setH_replies (v : Vector Word 3) : (s.setH v).replies = s.replies := rfl
@[simp] theorem State.setH_draws (v : Vector Word 3) : (s.setH v).draws = s.draws := rfl

/-! `State.setBlk` writes `blk` and nothing else. -/
@[simp] theorem State.setBlk_h (v : Vector Byte 64) : (s.setBlk v).h = s.h := rfl
@[simp] theorem State.setBlk_blk (v : Vector Byte 64) : (s.setBlk v).blk = v := rfl
@[simp] theorem State.setBlk_x (v : Vector Byte 64) : (s.setBlk v).x = s.x := rfl
@[simp] theorem State.setBlk_r (v : Vector Byte 64) : (s.setBlk v).r = s.r := rfl
@[simp] theorem State.setBlk_seq (v : Vector Byte 64) : (s.setBlk v).seq = s.seq := rfl
@[simp] theorem State.setBlk_done (v : Vector Byte 64) : (s.setBlk v).done = s.done := rfl
@[simp] theorem State.setBlk_errBusy (v : Vector Byte 64) : (s.setBlk v).errBusy = s.errBusy := rfl
@[simp] theorem State.setBlk_errCmd (v : Vector Byte 64) : (s.setBlk v).errCmd = s.errCmd := rfl
@[simp] theorem State.setBlk_errAcc (v : Vector Byte 64) : (s.setBlk v).errAcc = s.errAcc := rfl
@[simp] theorem State.setBlk_rom (v : Vector Byte 64) : (s.setBlk v).rom = s.rom := rfl
@[simp] theorem State.setBlk_turns (v : Vector Byte 64) : (s.setBlk v).turns = s.turns := rfl
@[simp] theorem State.setBlk_replies (v : Vector Byte 64) : (s.setBlk v).replies = s.replies := rfl
@[simp] theorem State.setBlk_draws (v : Vector Byte 64) : (s.setBlk v).draws = s.draws := rfl

/-! `State.setX` writes `x` and nothing else. -/
@[simp] theorem State.setX_h (v : Vector Word 8) : (s.setX v).h = s.h := rfl
@[simp] theorem State.setX_blk (v : Vector Word 8) : (s.setX v).blk = s.blk := rfl
@[simp] theorem State.setX_x (v : Vector Word 8) : (s.setX v).x = v := rfl
@[simp] theorem State.setX_r (v : Vector Word 8) : (s.setX v).r = s.r := rfl
@[simp] theorem State.setX_seq (v : Vector Word 8) : (s.setX v).seq = s.seq := rfl
@[simp] theorem State.setX_done (v : Vector Word 8) : (s.setX v).done = s.done := rfl
@[simp] theorem State.setX_errBusy (v : Vector Word 8) : (s.setX v).errBusy = s.errBusy := rfl
@[simp] theorem State.setX_errCmd (v : Vector Word 8) : (s.setX v).errCmd = s.errCmd := rfl
@[simp] theorem State.setX_errAcc (v : Vector Word 8) : (s.setX v).errAcc = s.errAcc := rfl
@[simp] theorem State.setX_rom (v : Vector Word 8) : (s.setX v).rom = s.rom := rfl
@[simp] theorem State.setX_turns (v : Vector Word 8) : (s.setX v).turns = s.turns := rfl
@[simp] theorem State.setX_replies (v : Vector Word 8) : (s.setX v).replies = s.replies := rfl
@[simp] theorem State.setX_draws (v : Vector Word 8) : (s.setX v).draws = s.draws := rfl

/-! `State.setR` writes `r` and nothing else. -/
@[simp] theorem State.setR_h (v : Vector Word 3) : (s.setR v).h = s.h := rfl
@[simp] theorem State.setR_blk (v : Vector Word 3) : (s.setR v).blk = s.blk := rfl
@[simp] theorem State.setR_x (v : Vector Word 3) : (s.setR v).x = s.x := rfl
@[simp] theorem State.setR_r (v : Vector Word 3) : (s.setR v).r = v := rfl
@[simp] theorem State.setR_seq (v : Vector Word 3) : (s.setR v).seq = s.seq := rfl
@[simp] theorem State.setR_done (v : Vector Word 3) : (s.setR v).done = s.done := rfl
@[simp] theorem State.setR_errBusy (v : Vector Word 3) : (s.setR v).errBusy = s.errBusy := rfl
@[simp] theorem State.setR_errCmd (v : Vector Word 3) : (s.setR v).errCmd = s.errCmd := rfl
@[simp] theorem State.setR_errAcc (v : Vector Word 3) : (s.setR v).errAcc = s.errAcc := rfl
@[simp] theorem State.setR_rom (v : Vector Word 3) : (s.setR v).rom = s.rom := rfl
@[simp] theorem State.setR_turns (v : Vector Word 3) : (s.setR v).turns = s.turns := rfl
@[simp] theorem State.setR_replies (v : Vector Word 3) : (s.setR v).replies = s.replies := rfl
@[simp] theorem State.setR_draws (v : Vector Word 3) : (s.setR v).draws = s.draws := rfl

/-! `State.setSeq` writes `seq` and nothing else. -/
@[simp] theorem State.setSeq_h (v : BitVec 5) : (s.setSeq v).h = s.h := rfl
@[simp] theorem State.setSeq_blk (v : BitVec 5) : (s.setSeq v).blk = s.blk := rfl
@[simp] theorem State.setSeq_x (v : BitVec 5) : (s.setSeq v).x = s.x := rfl
@[simp] theorem State.setSeq_r (v : BitVec 5) : (s.setSeq v).r = s.r := rfl
@[simp] theorem State.setSeq_seq (v : BitVec 5) : (s.setSeq v).seq = v := rfl
@[simp] theorem State.setSeq_done (v : BitVec 5) : (s.setSeq v).done = s.done := rfl
@[simp] theorem State.setSeq_errBusy (v : BitVec 5) : (s.setSeq v).errBusy = s.errBusy := rfl
@[simp] theorem State.setSeq_errCmd (v : BitVec 5) : (s.setSeq v).errCmd = s.errCmd := rfl
@[simp] theorem State.setSeq_errAcc (v : BitVec 5) : (s.setSeq v).errAcc = s.errAcc := rfl
@[simp] theorem State.setSeq_rom (v : BitVec 5) : (s.setSeq v).rom = s.rom := rfl
@[simp] theorem State.setSeq_turns (v : BitVec 5) : (s.setSeq v).turns = s.turns := rfl
@[simp] theorem State.setSeq_replies (v : BitVec 5) : (s.setSeq v).replies = s.replies := rfl
@[simp] theorem State.setSeq_draws (v : BitVec 5) : (s.setSeq v).draws = s.draws := rfl

/-! `State.setDone` writes `done` and nothing else. -/
@[simp] theorem State.setDone_h (v : Bool) : (s.setDone v).h = s.h := rfl
@[simp] theorem State.setDone_blk (v : Bool) : (s.setDone v).blk = s.blk := rfl
@[simp] theorem State.setDone_x (v : Bool) : (s.setDone v).x = s.x := rfl
@[simp] theorem State.setDone_r (v : Bool) : (s.setDone v).r = s.r := rfl
@[simp] theorem State.setDone_seq (v : Bool) : (s.setDone v).seq = s.seq := rfl
@[simp] theorem State.setDone_done (v : Bool) : (s.setDone v).done = v := rfl
@[simp] theorem State.setDone_errBusy (v : Bool) : (s.setDone v).errBusy = s.errBusy := rfl
@[simp] theorem State.setDone_errCmd (v : Bool) : (s.setDone v).errCmd = s.errCmd := rfl
@[simp] theorem State.setDone_errAcc (v : Bool) : (s.setDone v).errAcc = s.errAcc := rfl
@[simp] theorem State.setDone_rom (v : Bool) : (s.setDone v).rom = s.rom := rfl
@[simp] theorem State.setDone_turns (v : Bool) : (s.setDone v).turns = s.turns := rfl
@[simp] theorem State.setDone_replies (v : Bool) : (s.setDone v).replies = s.replies := rfl
@[simp] theorem State.setDone_draws (v : Bool) : (s.setDone v).draws = s.draws := rfl

/-! `State.setTurns` writes `turns` and nothing else. -/
@[simp] theorem State.setTurns_h (v : List Turn) : (s.setTurns v).h = s.h := rfl
@[simp] theorem State.setTurns_blk (v : List Turn) : (s.setTurns v).blk = s.blk := rfl
@[simp] theorem State.setTurns_x (v : List Turn) : (s.setTurns v).x = s.x := rfl
@[simp] theorem State.setTurns_r (v : List Turn) : (s.setTurns v).r = s.r := rfl
@[simp] theorem State.setTurns_seq (v : List Turn) : (s.setTurns v).seq = s.seq := rfl
@[simp] theorem State.setTurns_done (v : List Turn) : (s.setTurns v).done = s.done := rfl
@[simp] theorem State.setTurns_errBusy (v : List Turn) : (s.setTurns v).errBusy = s.errBusy := rfl
@[simp] theorem State.setTurns_errCmd (v : List Turn) : (s.setTurns v).errCmd = s.errCmd := rfl
@[simp] theorem State.setTurns_errAcc (v : List Turn) : (s.setTurns v).errAcc = s.errAcc := rfl
@[simp] theorem State.setTurns_rom (v : List Turn) : (s.setTurns v).rom = s.rom := rfl
@[simp] theorem State.setTurns_turns (v : List Turn) : (s.setTurns v).turns = v := rfl
@[simp] theorem State.setTurns_replies (v : List Turn) : (s.setTurns v).replies = s.replies := rfl
@[simp] theorem State.setTurns_draws (v : List Turn) : (s.setTurns v).draws = s.draws := rfl

/-! `State.reply` writes `replies` and nothing else. -/
@[simp] theorem State.reply_h (v : Word) : (s.reply v).h = s.h := rfl
@[simp] theorem State.reply_blk (v : Word) : (s.reply v).blk = s.blk := rfl
@[simp] theorem State.reply_x (v : Word) : (s.reply v).x = s.x := rfl
@[simp] theorem State.reply_r (v : Word) : (s.reply v).r = s.r := rfl
@[simp] theorem State.reply_seq (v : Word) : (s.reply v).seq = s.seq := rfl
@[simp] theorem State.reply_done (v : Word) : (s.reply v).done = s.done := rfl
@[simp] theorem State.reply_errBusy (v : Word) : (s.reply v).errBusy = s.errBusy := rfl
@[simp] theorem State.reply_errCmd (v : Word) : (s.reply v).errCmd = s.errCmd := rfl
@[simp] theorem State.reply_errAcc (v : Word) : (s.reply v).errAcc = s.errAcc := rfl
@[simp] theorem State.reply_rom (v : Word) : (s.reply v).rom = s.rom := rfl
@[simp] theorem State.reply_turns (v : Word) : (s.reply v).turns = s.turns := rfl
@[simp] theorem State.reply_replies (v : Word) : (s.reply v).replies = s.replies ++ [v] := rfl
@[simp] theorem State.reply_draws (v : Word) : (s.reply v).draws = s.draws := rfl

/-! `advanceSeq` writes `seq` and nothing else. -/
@[simp] theorem advanceSeq_h : (advanceSeq s).h = s.h := rfl
@[simp] theorem advanceSeq_blk : (advanceSeq s).blk = s.blk := rfl
@[simp] theorem advanceSeq_x : (advanceSeq s).x = s.x := rfl
@[simp] theorem advanceSeq_r : (advanceSeq s).r = s.r := rfl
@[simp] theorem advanceSeq_seq : (advanceSeq s).seq = s.seq + 1 := rfl
@[simp] theorem advanceSeq_done : (advanceSeq s).done = s.done := rfl
@[simp] theorem advanceSeq_errBusy : (advanceSeq s).errBusy = s.errBusy := rfl
@[simp] theorem advanceSeq_errCmd : (advanceSeq s).errCmd = s.errCmd := rfl
@[simp] theorem advanceSeq_errAcc : (advanceSeq s).errAcc = s.errAcc := rfl
@[simp] theorem advanceSeq_rom : (advanceSeq s).rom = s.rom := rfl
@[simp] theorem advanceSeq_turns : (advanceSeq s).turns = s.turns := rfl
@[simp] theorem advanceSeq_replies : (advanceSeq s).replies = s.replies := rfl
@[simp] theorem advanceSeq_draws : (advanceSeq s).draws = s.draws := rfl

/-! `resetEvent` clears the control registers, draws the data registers and keeps the rest. -/
@[simp] theorem resetEvent_h : (resetEvent s).h = drawnH s.draws := rfl
@[simp] theorem resetEvent_blk : (resetEvent s).blk = drawnBlk s.draws := rfl
@[simp] theorem resetEvent_x : (resetEvent s).x = drawnX s.draws := rfl
@[simp] theorem resetEvent_r : (resetEvent s).r = drawnR s.draws := rfl
@[simp] theorem resetEvent_seq : (resetEvent s).seq = 0 := rfl
@[simp] theorem resetEvent_done : (resetEvent s).done = false := rfl
@[simp] theorem resetEvent_errBusy : (resetEvent s).errBusy = false := rfl
@[simp] theorem resetEvent_errCmd : (resetEvent s).errCmd = false := rfl
@[simp] theorem resetEvent_errAcc : (resetEvent s).errAcc = false := rfl
@[simp] theorem resetEvent_rom : (resetEvent s).rom = s.rom := rfl
@[simp] theorem resetEvent_turns : (resetEvent s).turns = s.turns := rfl
@[simp] theorem resetEvent_replies : (resetEvent s).replies = s.replies := rfl
@[simp] theorem resetEvent_draws : (resetEvent s).draws = s.draws + 1 := rfl

/-! `raiseErr` writes one sticky flag and nothing else (60_exceptions.md R135). -/
@[simp] theorem raiseErr_h (f : ErrCause) : (raiseErr f s).h = s.h := by cases f <;> rfl
@[simp] theorem raiseErr_blk (f : ErrCause) : (raiseErr f s).blk = s.blk := by cases f <;> rfl
@[simp] theorem raiseErr_x (f : ErrCause) : (raiseErr f s).x = s.x := by cases f <;> rfl
@[simp] theorem raiseErr_r (f : ErrCause) : (raiseErr f s).r = s.r := by cases f <;> rfl
@[simp] theorem raiseErr_seq (f : ErrCause) : (raiseErr f s).seq = s.seq := by cases f <;> rfl
@[simp] theorem raiseErr_done (f : ErrCause) : (raiseErr f s).done = s.done := by cases f <;> rfl
@[simp] theorem raiseErr_errBusy (f : ErrCause) :
    (raiseErr f s).errBusy = (s.errBusy || decide (f = .busy)) := by
  cases f <;> simp [raiseErr, State.setFlag]
@[simp] theorem raiseErr_errCmd (f : ErrCause) :
    (raiseErr f s).errCmd = (s.errCmd || decide (f = .cmd)) := by
  cases f <;> simp [raiseErr, State.setFlag]
@[simp] theorem raiseErr_errAcc (f : ErrCause) :
    (raiseErr f s).errAcc = (s.errAcc || decide (f = .acc)) := by
  cases f <;> simp [raiseErr, State.setFlag]
@[simp] theorem raiseErr_rom (f : ErrCause) : (raiseErr f s).rom = s.rom := by cases f <;> rfl
@[simp] theorem raiseErr_turns (f : ErrCause) : (raiseErr f s).turns = s.turns := by cases f <;> rfl
@[simp] theorem raiseErr_replies (f : ErrCause) : (raiseErr f s).replies = s.replies := by cases f <;> rfl
@[simp] theorem raiseErr_draws (f : ErrCause) : (raiseErr f s).draws = s.draws := by cases f <;> rfl

/-- A set flag is set, and the other two are as before. -/
theorem raiseErr_flag (f g : ErrCause) : (raiseErr f s).flag g = (s.flag g || decide (f = g)) := by
  cases g <;> simp [State.flag]

/-- Two states are equal when all their fields are. -/
theorem State.ext_fields {s t : State} (h0 : s.h = t.h) (h1 : s.blk = t.blk) (h2 : s.x = t.x) (h3 : s.r = t.r) (h4 : s.seq = t.seq) (h5 : s.done = t.done) (h6 : s.errBusy = t.errBusy) (h7 : s.errCmd = t.errCmd) (h8 : s.errAcc = t.errAcc) (h9 : s.rom = t.rom) (h10 : s.turns = t.turns) (h11 : s.replies = t.replies) (h12 : s.draws = t.draws) :
    s = t := by
  cases s; cases t; simp_all

end Sys2Proof.Machine
end

