-- ==== Sys2Proof/Laws/Exec.lean ====
section
/-! SUPPORT. What each operation, each host access, each turn and each step can do, said once; later proofs cite these lemmas and
do not unfold the definitions. -/

namespace Sys2Proof.Machine

@[simp] theorem busy_iff (s : State) : s.busy = true ↔ s.seq ≠ 0 := by simp [State.busy]

@[simp] theorem busy_eq_false_iff (s : State) : s.busy = false ↔ s.seq = 0 := by simp [State.busy]

theorem execNop_idle {s : State} (h : s.seq = 0) : execNop s = .next s := by simp [execNop, State.busy, h]

theorem execNop_busy {s : State} (h : s.seq ≠ 0) : execNop s = .next (raiseErr .busy s) := by
  rw [execNop, if_pos ((busy_iff s).mpr h)]

theorem execStart_idle {s : State} (h : s.seq = 0) : execStart s = .next ((s.setDone false).setSeq 1) := by
  simp [execStart, State.busy, h]

theorem execStart_busy {s : State} (h : s.seq ≠ 0) : execStart s = .next (raiseErr .busy s) := by
  rw [execStart, if_pos ((busy_iff s).mpr h)]

theorem rotIndex_legal (rot : BitVec 2) (h : rot ≠ 3) : rotIndex rot = some (Fin.ofNat 3 rot.toNat) := by
  revert rot; decide

theorem mulOf_legal (msel : BitVec 2) (h : msel ≠ 3) : mulOf msel = some (BitVec.ofNat 64 (2 * msel.toNat + 5)) := by
  revert msel; decide

/-- A ROUND with legal operands (41_round_mixer.md R83). -/
theorem execRound_legal (s : State) (rot : BitVec 2) (widx : BitVec 3) (msel : BitVec 2) (hr : rot ≠ 3) (hm : msel ≠ 3) :
    execRound rot widx msel s = .next (advanceSeq (s.setR (roundAt s.rom (Fin.ofNat 3 rot.toNat) (workingWord s.x widx)
      (BitVec.ofNat 64 (2 * msel.toNat + 5)) s.r))) := by
  simp [execRound, rotIndex_legal rot hr, mulOf_legal msel hm]

/-- A ROUND with a reserved operand (30_encoding.md R60). -/
theorem execRound_reserved (s : State) (rot : BitVec 2) (widx : BitVec 3) (msel : BitVec 2) (h : rot = 3 ∨ msel = 3) :
    execRound rot widx msel s = .refused .reservedMicroOp := by
  have h3 : rotIndex 3 = none := by decide
  have m3 : mulOf 3 = none := by decide
  rcases h with rfl | rfl
  · simp only [execRound, h3]
  · simp only [execRound, m3]
    cases rotIndex rot <;> rfl

/-- Every host access goes on, in one of these ways (60_exceptions.md R136, 20_memory.md R36 to R38). -/
theorem hostAccess_cases (a : Access) (s : State) :
    ∃ t, hostAccess exec a s = .next t ∧
      ((a.bad = true ∧ a.storing = false ∧ (t = (raiseErr .acc s).reply 0 ∨ t = raiseErr .acc s)) ∨
       (a.bad = false ∧ a.storing = false ∧ ∃ off n, a = .read off n ∧ t = s.reply (readValue off n s)) ∨
       (a.bad = false ∧ a.storing = true ∧ s.seq ≠ 0 ∧ t = raiseErr .busy s) ∨
       (a.bad = false ∧ a.storing = true ∧ s.seq = 0 ∧
         (t = raiseErr .cmd s ∨ t = s ∨ (t = (s.setDone false).setSeq 1 ∧ a = .write 0x58 8 1) ∨
           (∃ off n v, a = .write off n v ∧ off < 0x40 ∧ t = s.setBlk (storeBytes s.blk off n v)) ∨
           (∃ h, t = s.setH h)))) := by
  cases a with
  | read off n =>
    cases hw : wellFormed off n with
    | false => exact ⟨_, rfl, .inl ⟨by simp [Access.bad, hw], rfl, .inl (by simp [hw])⟩⟩
    | true => exact ⟨_, rfl, .inr (.inl ⟨by simp [Access.bad, hw], rfl, off, n, rfl, by simp [hw]⟩)⟩
  | write off n v =>
    cases hw : writable off n with
    | false =>
      exact ⟨raiseErr .acc s, by simp [hostAccess, hostWrite, hw],
        .inl ⟨by simp [Access.bad, hw], by simp [Access.storing, hw], .inr rfl⟩⟩
    | true =>
      have hbad : (Access.write off n v).bad = false := by simp [Access.bad, hw]
      have hsto : (Access.write off n v).storing = true := by simp [Access.storing, hw]
      by_cases hs : s.seq = 0
      · have hb : s.busy = false := by simp [hs]
        have key : hostAccess exec (.write off n v) s = performWrite exec off n v s := by
          simp [hostAccess, hostWrite, hw, hb]
        rw [key]
        unfold performWrite
        by_cases h1 : off < 0x40
        · exact ⟨_, if_pos h1, .inr (.inr (.inr ⟨hbad, hsto, hs, .inr (.inr (.inr (.inl ⟨off, n, v, rfl, h1, rfl⟩)))⟩))⟩
        by_cases h2 : off = offH 0
        · exact ⟨_, by rw [if_neg h1, if_pos h2], .inr (.inr (.inr ⟨hbad, hsto, hs, .inr (.inr (.inr (.inr ⟨_, rfl⟩)))⟩))⟩
        by_cases h3 : off = offH 1
        · exact ⟨_, by rw [if_neg h1, if_neg h2, if_pos h3],
            .inr (.inr (.inr ⟨hbad, hsto, hs, .inr (.inr (.inr (.inr ⟨_, rfl⟩)))⟩))⟩
        by_cases h4 : off = offH 2
        · exact ⟨_, by rw [if_neg h1, if_neg h2, if_neg h3, if_pos h4],
            .inr (.inr (.inr ⟨hbad, hsto, hs, .inr (.inr (.inr (.inr ⟨_, rfl⟩)))⟩))⟩
        rw [if_neg h1, if_neg h2, if_neg h3, if_neg h4]
        unfold hostCommand
        rw [decodeCmd_eq]
        by_cases hv0 : v = 0
        · exact ⟨s, by simp [hv0, exec, execNop_idle hs], .inr (.inr (.inr ⟨hbad, hsto, hs, .inr (.inl rfl)⟩))⟩
        by_cases hv1 : v = 1
        · refine ⟨(s.setDone false).setSeq 1, by simp [hv1, exec, execStart_idle hs],
            .inr (.inr (.inr ⟨hbad, hsto, hs, .inr (.inr (.inl ⟨rfl, ?_⟩))⟩))⟩
          simp only [writable, wellFormed, offStatus, Bool.and_eq_true, Bool.or_eq_true, decide_eq_true_eq, beq_iff_eq] at hw
          obtain ⟨⟨⟨⟨_, hm⟩, _⟩, h5⟩, h6⟩ := hw
          rcases h5 with h5 | ⟨_, rfl⟩
          · exact absurd h5 h1
          · have h2' : ¬ off = 64 := h2
            have h3' : ¬ off = 72 := h3
            have h4' : ¬ off = 80 := h4
            have h6' : off < 96 := of_decide_eq_true h6
            have : off = 0x58 := by omega
            rw [this, hv1]
        · exact ⟨raiseErr .cmd s, by rw [if_neg hv0, if_neg hv1], .inr (.inr (.inr ⟨hbad, hsto, hs, .inl rfl⟩))⟩
      · have hb : s.busy = true := (busy_iff s).mpr hs
        exact ⟨raiseErr .busy s, by simp [hostAccess, hostWrite, hw, hb], .inr (.inr (.inl ⟨hbad, hsto, hs, rfl⟩))⟩

/-- A command word while idle: NOP, START, or reserved (30_encoding.md R52, R53). -/
theorem hostCommand_nop {s : State} (h : s.seq = 0) : hostCommand exec 0 s = .next s := execNop_idle h

theorem hostCommand_start {s : State} (h : s.seq = 0) : hostCommand exec 1 s = .next ((s.setDone false).setSeq 1) :=
  execStart_idle h

theorem hostCommand_reserved {run : Instr → State → Result} {v : Word} (s : State) (h0 : v ≠ 0) (h1 : v ≠ 1) :
    hostCommand run v s = .next (raiseErr .cmd s) := by
  rw [hostCommand, decodeCmd_eq, if_neg h0, if_neg h1]

/-- The microprogram holds the operation of each place, and no other (30_encoding.md R58). -/
theorem microWord_decodes (q : BitVec 5) (h0 : q ≠ 0) (h : q.toNat ≤ 28) :
    ∃ u i, microWord q = some u ∧ decodeUop u = .ok i ∧ i.wf = true ∧
      ((q = 1 ∧ i = .load) ∨ (q = 28 ∧ i = .fold) ∨ ((q = 10 ∨ q = 19) ∧ i = .ksched) ∨
        (q ≠ 1 ∧ q ≠ 28 ∧ ∃ rot widx msel, i = .round rot widx msel)) := by
  have key : ∀ q : BitVec 5, q ≠ 0 → q.toNat ≤ 28 →
      (match (microWord q).bind fun u => accepted (decodeUop u) with
      | some .load => decide (q = 1)
      | some .fold => decide (q = 28)
      | some .ksched => decide (q = 10 ∨ q = 19)
      | some (.round rot _ msel) => decide (q ≠ 1 ∧ q ≠ 28 ∧ rot ≠ 3 ∧ msel ≠ 3)
      | _ => false) = true := by decide
  have hk := key q h0 h
  cases hu : microWord q with
  | none => simp [hu] at hk
  | some u =>
    cases hd : decodeUop u with
    | error e => simp [hu, hd, accepted] at hk
    | ok i =>
      rw [hu, Option.bind_some, hd] at hk
      refine ⟨u, i, rfl, hd, ?_⟩
      cases i with
      | nop => exact absurd hk Bool.false_ne_true
      | start => exact absurd hk Bool.false_ne_true
      | load => exact ⟨rfl, .inl ⟨of_decide_eq_true hk, rfl⟩⟩
      | round rot widx msel =>
        obtain ⟨h1, h2, h3, h4⟩ := of_decide_eq_true hk
        exact ⟨by rw [Instr.wf, Bool.and_eq_true, bne_iff_ne, bne_iff_ne]; exact ⟨h3, h4⟩, .inr (.inr (.inr ⟨h1, h2, rot, widx, msel, rfl⟩))⟩
      | ksched => exact ⟨rfl, .inr (.inr (.inl ⟨of_decide_eq_true hk, rfl⟩))⟩
      | fold => exact ⟨rfl, .inr (.inl ⟨of_decide_eq_true hk, rfl⟩)⟩

/-- While busy the engine executes the word of its place (42_pass_sequencer.md R95). -/
theorem engineTurn_of_word {run : Instr → State → Result} {s : State} {u : BitVec 9} {i : Instr}
    (hu : microWord s.seq = some u) (hi : decodeUop u = .ok i) : engineTurn run s = run i s := by
  simp [engineTurn, hu, hi]

/-- While idle the engine's turn leaves the state (42_pass_sequencer.md R97). -/
theorem engineTurn_idle {run : Instr → State → Result} {s : State} (h : s.seq = 0) : engineTurn run s = .next s := by
  simp [engineTurn, microWord, h]

/-- A state with an illegal `SEQ` is refused (10_state.md R14). -/
theorem engineTurn_illegal {run : Instr → State → Result} {s : State} (h : 28 < s.seq.toNat) :
    engineTurn run s = .refused .illegalSeq := by
  have hn : microWord s.seq = none := by
    have : ∀ q : BitVec 5, 28 < q.toNat → microWord q = none := by decide
    exact this _ h
  have hb : s.busy = true := by
    rw [busy_iff]; intro h0; simp [h0] at h
  simp [engineTurn, hn, hb]

/-- The engine's turn while busy, in full: one of the four micro-operations, each at its places of the microprogram
(30_encoding.md R58, 42_pass_sequencer.md R95). -/
theorem engineTurn_busy {s : State} (h0 : s.seq ≠ 0) (h : s.seq.toNat ≤ 28) :
    ∃ t, engineTurn exec s = .next t ∧
      ((s.seq = 1 ∧ t = advanceSeq ((s.setX (blockWords s.blk)).setR s.h)) ∨
       (s.seq ≠ 1 ∧ s.seq ≠ 28 ∧ ∃ r, t = advanceSeq (s.setR r)) ∨
       (s.seq ≠ 1 ∧ s.seq ≠ 28 ∧ t = advanceSeq (s.setX (keySchedule s.x))) ∨
       (s.seq = 28 ∧ t = ((s.setH (feedForward s.h s.r[0] s.r[1] s.r[2])).setDone true).setSeq 0)) := by
  obtain ⟨u, i, hu, hi, hwf, hcase⟩ := microWord_decodes s.seq h0 h
  rw [engineTurn_of_word hu hi]
  rcases hcase with ⟨hq, rfl⟩ | ⟨hq, rfl⟩ | ⟨hq, rfl⟩ | ⟨h1, h28, rot, widx, msel, rfl⟩
  · exact ⟨_, rfl, .inl ⟨hq, rfl⟩⟩
  · exact ⟨_, rfl, .inr (.inr (.inr ⟨hq, rfl⟩))⟩
  · refine ⟨_, rfl, .inr (.inr (.inl ⟨?_, ?_, rfl⟩))⟩ <;> rcases hq with hq | hq <;> rw [hq] <;> decide
  · simp only [Instr.wf, Bool.and_eq_true, bne_iff_ne] at hwf
    exact ⟨_, execRound_legal s rot widx msel hwf.1 hwf.2, .inr (.inl ⟨h1, h28, _, rfl⟩)⟩

theorem step_nil {s : State} (h : s.turns = []) : step s = engineTurn exec s := by
  simp [step, nextTurn, h, takeTurn]

theorem step_cons {s : State} {t : Turn} {ts : List Turn} (h : s.turns = t :: ts) :
    step s = takeTurn exec t (s.setTurns ts) := by
  simp [step, nextTurn, h]

theorem takeTurn_host {a : Access} {s : State} (h : s.seq.toNat ≤ 28) :
    takeTurn exec (.host a) s = hostAccess exec a s := by
  simp [takeTurn, legalSeq, h]

theorem takeTurn_host_illegal {a : Access} {s : State} (h : ¬ s.seq.toNat ≤ 28) :
    takeTurn exec (.host a) s = .refused .illegalSeq := by
  simp [takeTurn, legalSeq, h]

/-- The state the next turn is taken on differs from `s` in `turns` at most. -/
theorem nextTurn_state (s : State) : (nextTurn s).2 = s.setTurns s.turns.tail := by
  unfold nextTurn
  split
  · next h => cases s; simp_all [State.setTurns]
  · next h => simp [h]

end Sys2Proof.Machine
end

