-- ==== Sys2Proof/Laws/Mixer.lean ====
section
/-! SUPPORT. The ROM read by table and the round by role assignment. -/

namespace Sys2Proof.Machine

theorem romAddress_index (k : Table) (i : Byte) : (romAddress k i).extractLsb' 0 8 = i := by
  revert i; cases k <;> decide +kernel

theorem romAddress_table (k : Table) (i : Byte) : (romAddress k i).extractLsb' 8 2 = tableCode k := by
  revert i; cases k <;> decide +kernel

theorem sboxRead_t1 (rom : Rom) (i : Byte) : sboxRead rom .t1 i = rom.t1[i.toNat]'i.isLt := by
  simp [sboxRead, romWord, romAddress_index, romAddress_table, tableCode]

theorem sboxRead_t2 (rom : Rom) (i : Byte) : sboxRead rom .t2 i = rom.t2[i.toNat]'i.isLt := by
  simp [sboxRead, romWord, romAddress_index, romAddress_table, tableCode]

theorem sboxRead_t3 (rom : Rom) (i : Byte) : sboxRead rom .t3 i = rom.t3[i.toNat]'i.isLt := by
  simp [sboxRead, romWord, romAddress_index, romAddress_table, tableCode]

theorem sboxRead_t4 (rom : Rom) (i : Byte) : sboxRead rom .t4 i = rom.t4[i.toNat]'i.isLt := by
  simp [sboxRead, romWord, romAddress_index, romAddress_table, tableCode]

/-- The roles (A, B, C) (30_encoding.md R57, row 0). -/
theorem roundAt_abc (rom : Rom) (x mul : Word) (r : Vector Word 3) :
    roundAt rom 0 x mul r =
      #v[(roundFn rom r[0] r[1] r[2] x mul).1, (roundFn rom r[0] r[1] r[2] x mul).2.1,
        (roundFn rom r[0] r[1] r[2] x mul).2.2] := by
  ext i hi
  interval_cases i <;> simp [roundAt]

/-- The roles (B, C, A) (30_encoding.md R57, row 1). -/
theorem roundAt_bca (rom : Rom) (x mul : Word) (r : Vector Word 3) :
    roundAt rom 1 x mul r =
      #v[(roundFn rom r[1] r[2] r[0] x mul).2.2, (roundFn rom r[1] r[2] r[0] x mul).1,
        (roundFn rom r[1] r[2] r[0] x mul).2.1] := by
  ext i hi
  interval_cases i <;> simp [roundAt]

/-- The roles (C, A, B) (30_encoding.md R57, row 2). -/
theorem roundAt_cab (rom : Rom) (x mul : Word) (r : Vector Word 3) :
    roundAt rom 2 x mul r =
      #v[(roundFn rom r[2] r[0] r[1] x mul).2.1, (roundFn rom r[2] r[0] r[1] x mul).2.2,
        (roundFn rom r[2] r[0] r[1] x mul).1] := by
  ext i hi
  interval_cases i <;> simp [roundAt]

end Sys2Proof.Machine
end

