-- ==== Sys2Proof/Laws/PerInstr.lean ====
section
/-! SUPPORT. Statements about every operation as syntax, one lemma per constructor of Instr. -/

namespace Sys2Proof.Laws.EncodeLayout

/-- The word of a well-formed operation lies in its encoded space and matches its row of the opcode table, match under mask
(30_encoding.md R52, R55), with the operands of a ROUND in their fields (R54). -/
def Statement (i : Instr) : Prop :=
  i.wf = true →
    match i with
    | .nop => ∃ v, encode i = .cmd v ∧ v &&& 0xFFFFFFFFFFFFFFFF = 0x0000000000000000
    | .start => ∃ v, encode i = .cmd v ∧ v &&& 0xFFFFFFFFFFFFFFFF = 0x0000000000000001
    | .load => ∃ u, encode i = .uop u ∧ u &&& 0x1FF = 0x000
    | .round rot widx msel => ∃ u, encode i = .uop u ∧ u &&& 0x180 = 0x080 ∧ uopRot u = rot ∧ uopWidx u = widx ∧
        uopMsel u = msel
    | .ksched => ∃ u, encode i = .uop u ∧ u &&& 0x1FF = 0x100
    | .fold => ∃ u, encode i = .uop u ∧ u &&& 0x1FF = 0x180

theorem nop : Statement .nop := fun _ => ⟨_, rfl, rfl⟩

theorem start : Statement .start := fun _ => ⟨_, rfl, rfl⟩

theorem load : Statement .load := fun _ => ⟨_, rfl, rfl⟩

theorem round (rot : BitVec 2) (widx : BitVec 3) (msel : BitVec 2) : Statement (.round rot widx msel) := by
  intro h
  have key : ∀ (rot : BitVec 2) (widx : BitVec 3) (msel : BitVec 2), (Instr.round rot widx msel).wf = true →
      roundWord rot widx msel &&& 0x180 = 0x080 ∧ uopRot (roundWord rot widx msel) = rot ∧
        uopWidx (roundWord rot widx msel) = widx ∧ uopMsel (roundWord rot widx msel) = msel := by decide
  exact ⟨_, rfl, key rot widx msel h⟩

theorem ksched : Statement .ksched := fun _ => ⟨_, rfl, rfl⟩

theorem fold : Statement .fold := fun _ => ⟨_, rfl, rfl⟩

end Sys2Proof.Laws.EncodeLayout
end

