-- ==== Sys2Proof/Laws/Run.lean ====
section
/-! SUPPORT. Running several steps, and what a step can do to the control registers. -/

namespace Sys2Proof.Machine

theorem runSteps_zero (s : State) : runSteps 0 s = .next s := rfl

/-- The first step, then the rest. -/
theorem runSteps_succ {s t : State} (h : step s = .next t) (k : Nat) : runSteps (k + 1) s = runSteps k t := by
  have e : Host.Core.step Sys2Proof.core s = .next t := h
  simp only [runSteps, Host.Core.run]
  rw [e]

/-- Running in two stretches. -/
theorem runSteps_add {s t : State} {j : Nat} (k : Nat) (h : runSteps j s = .next t) : runSteps (j + k) s = runSteps k t := by
  induction j generalizing s with
  | zero =>
    rw [runSteps_zero] at h
    cases h
    rw [Nat.zero_add]
  | succ j ih =>
    cases hs : step s with
    | next u =>
      rw [runSteps_succ hs] at h
      rw [show j + 1 + k = (j + k) + 1 by omega, runSteps_succ hs]
      exact ih h
    | fault r => cases r
    | refused r =>
      have e : Host.Core.step Sys2Proof.core s = .refused r := hs
      simp only [runSteps, Host.Core.run] at h
      rw [e] at h
      cases h

/-- A state with a legal `SEQ` always has a next state (93_implementation_defined.md Part 1). -/
theorem takeTurn_total (t : Turn) (s : State) (h : s.seq.toNat ≤ 28) : ∃ s', takeTurn exec t s = .next s' := by
  cases t with
  | engine =>
    by_cases h0 : s.seq = 0
    · exact ⟨s, engineTurn_idle h0⟩
    · obtain ⟨t, ht, -⟩ := engineTurn_busy h0 h
      exact ⟨t, ht⟩
  | host a =>
    obtain ⟨t, ht, -⟩ := hostAccess_cases a s
    exact ⟨t, by rw [takeTurn_host h, ht]⟩
  | reset => exact ⟨_, rfl⟩

/-- While busy a host access changes no register but the sticky flags (20_memory.md R38, 60_exceptions.md R135). -/
theorem hostAccess_busy (a : Access) (s : State) (h : s.seq ≠ 0) :
    ∃ t, hostAccess exec a s = .next t ∧ t.h = s.h ∧ t.blk = s.blk ∧ t.x = s.x ∧ t.r = s.r ∧ t.seq = s.seq ∧
      t.done = s.done ∧ t.errBusy = (s.errBusy || a.storing) ∧ t.errCmd = s.errCmd ∧ t.errAcc = (s.errAcc || a.bad) ∧
      t.rom = s.rom ∧ t.turns = s.turns ∧ t.draws = s.draws := by
  obtain ⟨t, ht, hc⟩ := hostAccess_cases a s
  refine ⟨t, ht, ?_⟩
  rcases hc with ⟨hb, hs, rfl | rfl⟩ | ⟨hb, hs, off, n, -, rfl⟩ | ⟨hb, hs, -, rfl⟩ | ⟨-, -, h0, -⟩
  · simp [hb, hs]
  · simp [hb, hs]
  · simp [hb, hs]
  · simp [hb, hs]
  · exact absurd h0 h

/-- `SEQ + 1` as a number, while it stays within the five bits. -/
theorem seq_succ_toNat (q : BitVec 5) (h : q.toNat ≤ 28) : (q + 1).toNat = q.toNat + 1 := by
  rw [BitVec.toNat_add]
  have : (1 : BitVec 5).toNat = 1 := rfl
  omega

/-- A step takes the next turn on the state with that turn removed. -/
theorem step_eq_takeTurn (s : State) : step s = takeTurn exec (nextTurn s).1 (s.setTurns s.turns.tail) := by
  rw [step, nextTurn_state]

/-- Equal schedules give equal turns. -/
theorem nextTurn_congr {s s' : State} (h : s.turns = s'.turns) : (nextTurn s).1 = (nextTurn s').1 := by
  unfold nextTurn
  rw [h]
  cases s'.turns <;> rfl

/-- Everything the engine's turn can do when it goes on (42_pass_sequencer.md R95, R97). -/
theorem engineTurn_inv {s t : State} (h : engineTurn exec s = .next t) :
    (s.seq = 0 ∧ t = s) ∨
    (s.seq ≠ 0 ∧ s.seq.toNat ≤ 28 ∧
      ((s.seq = 1 ∧ t = advanceSeq ((s.setX (blockWords s.blk)).setR s.h)) ∨
       (s.seq ≠ 1 ∧ s.seq ≠ 28 ∧ ∃ r, t = advanceSeq (s.setR r)) ∨
       (s.seq ≠ 1 ∧ s.seq ≠ 28 ∧ t = advanceSeq (s.setX (keySchedule s.x))) ∨
       (s.seq = 28 ∧ t = ((s.setH (feedForward s.h s.r[0] s.r[1] s.r[2])).setDone true).setSeq 0))) := by
  by_cases h0 : s.seq = 0
  · rw [engineTurn_idle h0] at h
    cases h
    exact .inl ⟨h0, rfl⟩
  · by_cases hl : s.seq.toNat ≤ 28
    · obtain ⟨t', ht, hc⟩ := engineTurn_busy h0 hl
      rw [ht] at h
      cases h
      exact .inr ⟨h0, hl, hc⟩
    · rw [engineTurn_illegal (by omega)] at h
      cases h

/-- A host turn that goes on is a host access in a state with a legal `SEQ`. -/
theorem hostTurn_inv {a : Access} {s t : State} (h : takeTurn exec (.host a) s = .next t) :
    s.seq.toNat ≤ 28 ∧ hostAccess exec a s = .next t := by
  by_cases hl : s.seq.toNat ≤ 28
  · rw [takeTurn_host hl] at h
    exact ⟨hl, h⟩
  · rw [takeTurn_host_illegal hl] at h
    cases h

theorem State.sameControl_iff (s t : State) : s.SameControl t ↔
    s.seq = t.seq ∧ s.done = t.done ∧ s.errBusy = t.errBusy ∧ s.errCmd = t.errCmd ∧ s.errAcc = t.errAcc ∧
      s.turns = t.turns ∧ s.draws = t.draws := Iff.rfl

theorem State.sameVisible_iff (s t : State) : s.SameVisible t ↔
    s.h = t.h ∧ s.blk = t.blk ∧ s.seq = t.seq ∧ s.done = t.done ∧ s.errBusy = t.errBusy ∧ s.errCmd = t.errCmd ∧
      s.errAcc = t.errAcc ∧ s.rom = t.rom ∧ s.turns = t.turns ∧ s.replies = t.replies ∧ s.draws = t.draws := Iff.rfl

end Sys2Proof.Machine
end

