-- ==== Sys2Proof/Tests/Slice0.lean ====
section
/-! SUPPORT. Tests. Expected values come from spec/95_test_vectors.md (cited as V<n>, or by section) and from the encodings of
spec/30_encoding.md, never from the model. The second half gives, for every statement of Obligations.lean that has hypotheses, a
state and operands that meet them together. -/

namespace Sys2Proof.Tests

open Sys2Proof.Machine

-- Many short kernel evaluations: one at a time, so that no stack is reserved for each of them.
set_option Elab.async false

/-! ## Helpers -/

/-- The ZERO ROM of 95_test_vectors.md. -/
def zeroRom : Rom := ⟨.replicate 256 0, .replicate 256 0, .replicate 256 0, .replicate 256 0⟩

/-- One table of the LANE ROM of 95_test_vectors.md: the index, `sh` bits up. -/
def laneTable (sh : Nat) : Vector Word 256 := Vector.ofFn fun i : Fin 256 => BitVec.ofNat 64 i <<< sh

/-- The LANE ROM of 95_test_vectors.md. -/
def laneRom : Rom := ⟨laneTable 0, laneTable 16, laneTable 32, laneTable 48⟩

/-- The state "idle" of 95_test_vectors.md section 8, with the ZERO ROM. -/
def bench : State where
  h := #v[0x1111111111111111, 0x2222222222222222, 0x3333333333333333]
  blk := Vector.ofFn fun i : Fin 64 => BitVec.ofNat 8 i
  x := .replicate 8 0
  r := .replicate 3 0
  seq := 0
  done := false
  errBusy := false
  errCmd := false
  errAcc := false
  rom := zeroRom
  turns := []
  replies := []
  draws := 1

/-- The state "busy" of 95_test_vectors.md section 8. -/
def benchBusy : State := bench.setSeq 5

/-- The published initial state (95_test_vectors.md, "IV"). -/
def iv : Vector Word 3 := #v[0x0123456789ABCDEF, 0xFEDCBA9876543210, 0xF096A5B4C3B2E187]

/-- The next state, if the step goes on. -/
def next? : Result → Option State
  | .next s => some s
  | .fault _ => none
  | .refused _ => none

/-- The next state after one host access. -/
def afterHost (s : State) (a : Access) : Option State := next? (step (s.setTurns [.host a]))

/-- The last value a read returned. -/
def lastReply (s : Option State) : Option Word := s.bind fun t => t.replies.getLast?

/-! ## Well-formedness -/

theorem test_wf_refuses_rot : (Instr.round 3 0 0).wf = false := by decide
theorem test_wf_refuses_msel : (Instr.round 0 0 3).wf = false := by decide
theorem test_wf_accepts : (Instr.round 2 7 2).wf = true ∧ Instr.load.wf = true := by decide

/-! ## Decoding (95_test_vectors.md 7.1, 7.2; the words bit by bit from 30_encoding.md R51 to R55) -/

theorem test_decode_nop : decode (.cmd 0x0000000000000000) = .ok .nop := by decide
theorem test_decode_start : decode (.cmd 0x0000000000000001) = .ok .start := by decide
theorem test_decode_cmd_0101 : decode (.cmd 0x101) = .error (.reservedCommand 0x101) := by decide
theorem test_decode_cmd_top : decode (.cmd 0x8000000000000000) = .error (.reservedCommand 0x8000000000000000) := by decide
theorem test_decode_load : decode (.uop 0b00_00_000_00) = .ok .load := by decide
theorem test_decode_round_bca : decode (.uop 0b01_01_001_00) = .ok (.round 1 1 0) := by decide
theorem test_decode_round_cab : decode (.uop 0b01_10_111_10) = .ok (.round 2 7 2) := by decide
theorem test_decode_ksched : decode (.uop 0b10_00_000_00) = .ok .ksched := by decide
theorem test_decode_fold : decode (.uop 0b11_00_000_00) = .ok .fold := by decide
theorem test_decode_reserved : ∀ u ∈ ([0x001, 0x07F, 0x083, 0x0E0, 0x0FE, 0x0FF, 0x104, 0x1FF] : List (BitVec 9)),
    decode (.uop u) = .error (.reservedMicroOp u) := by decide
theorem test_decode_table_rows : decodeTableWord 64 1 = some .start ∧ decodeTableWord 16 0x0A4 = some (.round 1 1 0) ∧
    decodeTableWord 16 0x180 = some .fold ∧ decodeTableWord 16 0x1FF = none := by decide

/-- Every row of the opcode table is the first operation to run when it is placed after reset: NOP, START, LOAD, ROUND 0 0 0,
KSCHED and FOLD leave `SEQ` at 0, 1, 2, 3, 11 and 0 (30_encoding.md R58). -/
theorem test_placed_words_run_from_reset :
    ([(64, 0), (64, 1), (16, 0x000), (16, 0x080), (16, 0x100), (16, 0x180)].map fun p =>
      (next? (step (State.reset.withFetchWord p.1 p.2))).map (·.seq)) =
      [some 0, some 1, some 2, some 3, some 11, some 0] := by decide +kernel

/-! ## The ROM (40_sbox_rom.md R76; the sums of 48 R126 and 49 R127; 95_test_vectors.md 7.3) -/

/-- The check value of a table: the sum of `(2i + 1) * T[i]` modulo 2^64. -/
def weightedSum (t : Vector Word 256) : Word :=
  t.toList.zipIdx.foldl (fun acc p => acc + p.1 * BitVec.ofNat 64 (2 * p.2 + 1)) 0

theorem test_rom_t1 : weightedSum sboxPub.t1 = 0xC334837174A296A4 := by decide +kernel
theorem test_rom_t2 : weightedSum sboxPub.t2 = 0x5D92CF4866FC30C0 := by decide +kernel
theorem test_rom_t3 : weightedSum sboxPub.t3 = 0x558F6674D1ADD7CA := by decide +kernel
theorem test_rom_t4 : weightedSum sboxPub.t4 = 0x4802CCB1F9380B3A := by decide +kernel
/-- Four table words read in 95_test_vectors.md section 3.1. -/
theorem test_rom_reads : sboxRead sboxPub .t1 0x86 = 0x0D5DF1A94CCF402F ∧ sboxRead sboxPub .t2 0xB2 = 0xAB9BF1879DA503BA ∧
    sboxRead sboxPub .t3 0xB4 = 0x1ECBBA0714E2A97B ∧ sboxRead sboxPub .t4 0x96 = 0x3691E03F52A0F9D1 := by decide +kernel
theorem test_rom_addresses : romAddress .t1 0xFF = 0x0FF ∧ romAddress .t2 0x00 = 0x100 ∧ romAddress .t3 0x80 = 0x280 ∧
    romAddress .t4 0xFF = 0x3FF := by decide

/-! ## The pure functions -/

/-- V3.15: every byte goes to its own table. -/
theorem test_round_lane : roundFn laneRom 0x1111111111111111 0x2222222222222222 0x0706050403020100 0 9 =
    (0x110B110D110F1111, 0x333C334E33603371, 0x0706050403020100) := by decide +kernel
/-- V3.21. -/
theorem test_round_pub : roundFn sboxPub 0x0123456789ABCDEF 0xFEDCBA9876543210 0xF096A5B4C3B2E187 1 5 =
    (0x7286EB50F283BAB0, 0x5FF651048C978613, 0xF096A5B4C3B2E186) := by decide +kernel
/-- V4.4. -/
theorem test_pass_zero_rom : passFn zeroRom iv #v[1, 0, 0, 0, 0, 0, 0, 0] 5 =
    #v[0x1C71C71C71C71C57, 0x71C71C71C71C71D0, 0x798EE9438E581E6E] := by decide +kernel
/-- V6.1: the compression of the padded empty message from the published initial state. -/
theorem test_compress_empty_message :
    compress sboxPub iv (Vector.ofFn fun i : Fin 64 => if i.val = 0 then 1 else 0) =
      #v[0x24F0130C63AC9332, 0x16166E76B1BB925F, 0xF373DE2D49584E7A] := by decide +kernel
/-- V6.12, under the ZERO ROM. -/
theorem test_compress_zero_rom : compress zeroRom #v[1, 2, 3] (.replicate 64 0) =
    #v[0x34C21F59E01A8CBC, 0x02882D26FE2F0E51, 0x1A015574FE02322C] := by decide +kernel

/-! ## The operations, one step each -/

theorem test_nop_idle : exec .nop bench = .next bench := rfl
theorem test_nop_busy : (next? (exec .nop benchBusy)).map statusWord = some 0x101 := by decide +kernel

theorem test_start_clears_done : (next? (exec .start (bench.setDone true))).map statusWord = some 0x1 := by decide +kernel
theorem test_start_busy : (next? (exec .start benchBusy)).map (fun s => (s.seq, s.errBusy)) = some (5, true) := by decide +kernel

/-- From V8.4: bytes 8 to 15 are the word `0x0F0E0D0C0B0A0908`. -/
theorem test_load_word : (next? (step (bench.setSeq 1))).map (fun s => (s.x[1], s.r[2], s.seq)) =
    some (0x0F0E0D0C0B0A0908, 0x3333333333333333, 2) := by decide +kernel

/-- 95_test_vectors.md section 3.2. -/
theorem test_round_step :
    (next? (step (((bench.setR #v[1, 2, 3]).setX #v[0, 0, 0, 0, 4, 0, 0, 0]).setSeq 6))).map (fun s => (s.r, s.seq)) =
      some (#v[5, 2, 0xF], 7) := by decide +kernel
/-- Step 27 of the trace 6.3: `ROUND 2, 7, 2`, the word `0x429E5A398C7DE60B` of V5.1. -/
theorem test_round_step_last :
    (next? (step (((bench.setR #v[0x5B32037BC3912C15, 0x4016771F7252E858, 0x1A015574FE023229]).setX
      #v[0, 0, 0, 0, 0, 0, 0, 0x429E5A398C7DE60B]).setSeq 27))).map (fun s => (s.r[0], s.r[1], s.seq)) =
      some (0x34C21F59E01A8CBD, 0x02882D26FE2F0E53, 28) := by decide +kernel

/-- V5.1 "once". -/
theorem test_ksched_zero : (next? (step (bench.setSeq 10))).map (·.x) =
    some #v[0xD1D1D1F3F3EF0F10, 0xC77777B0B09B4B4B, 0x9D2D2DEAEAC11110, 0x25B5B6737346B6B5,
      0x62D2D1D1B1A30906, 0xEA5A59593926ACA3, 0x61D1D0F2D2BB6158, 0x1684E2043E8407FE] := by decide +kernel
/-- V5.2 "once". -/
theorem test_ksched_ones : (next? (step ((bench.setX (.replicate 8 0xFFFFFFFFFFFFFFFF)).setSeq 19))).map (·.x) =
    some #v[0x1D1D1C0C0C08F0EE, 0x08888970B0A1696C, 0x52D2D32AEAFB3335, 0xDB5B5BB37388D8DB,
      0x9C1C1C8E4DA0E768, 0xEB6B6BF93AD2BD30, 0x73F3F592D46F71E6, 0x04A6C571089E8F40] := by decide +kernel

/-- The feed-forward of the trace 6.3. -/
theorem test_fold : (next? (step (((bench.setH #v[1, 2, 3]).setR
      #v[0x34C21F59E01A8CBD, 0x02882D26FE2F0E53, 0x1A015574FE023229]).setSeq 28))).map (fun s => (s.h, s.seq, statusWord s)) =
    some (#v[0x34C21F59E01A8CBC, 0x02882D26FE2F0E51, 0x1A015574FE02322C], 0, 0x2) := by decide +kernel
/-- 00_scope.md R4: the subtraction of the feed-forward wraps. -/
theorem test_fold_wraps : (next? (step ((bench.setH #v[0, 1, 0]).setSeq 28))).map (fun s => s.h[1]) =
    some 0xFFFFFFFFFFFFFFFF := by decide +kernel

/-! ## The register window (95_test_vectors.md section 8) -/

theorem test_V8_2 : lastReply (afterHost bench (.read 0x02 2)) = some 0x0302 := by decide +kernel
theorem test_V8_5 : lastReply (afterHost bench (.read 0x3F 1)) = some 0x3F := by decide +kernel
theorem test_V8_7 : lastReply (afterHost bench (.read 0x50 8)) = some 0x3333333333333333 := by decide +kernel
theorem test_V8_10 : lastReply (afterHost benchBusy (.read 0x60 8)) = some 0x1 := by decide +kernel
theorem test_V8_14 : (afterHost bench (.read 0x3E 4)).map (fun s => (s.replies, statusWord s)) = some ([0], 0x400) := by
  decide +kernel
theorem test_V8_20 : (afterHost bench (.read 0x80 8)).map (fun s => (s.replies, statusWord s)) = some ([0], 0x400) := by
  decide +kernel
theorem test_V8_24 : (afterHost bench (.write 0x3C 4 0xDEADBEEF)).map (fun s => (s.blk.toList.drop 0x3A, statusWord s)) =
    some ([0x3A, 0x3B, 0xEF, 0xBE, 0xAD, 0xDE], 0) := by decide +kernel
theorem test_V8_26 : (afterHost bench (.write 0x48 8 0x99)).map (·.h) =
    some #v[0x1111111111111111, 0x99, 0x3333333333333333] := by decide +kernel
theorem test_V8_28 : (afterHost bench (.write 0x58 8 1)).map (fun s => (s.seq, statusWord s)) = some (1, 1) := by
  decide +kernel
theorem test_V8_29 : (afterHost bench (.write 0x58 8 7)).map statusWord = some 0x200 := by decide +kernel
theorem test_V8_30 : (afterHost bench (.write 0x60 8 0)).map statusWord = some 0x400 := by decide +kernel
theorem test_V8_37 : (afterHost benchBusy (.write 0x40 8 5)).map (fun s => (s.h[0], statusWord s)) =
    some (0x1111111111111111, 0x101) := by decide +kernel
theorem test_V8_40 : (afterHost benchBusy (.write 0x58 8 7)).map statusWord = some 0x101 := by decide +kernel
theorem test_V8_41 : (afterHost benchBusy (.write 0x60 8 0)).map statusWord = some 0x401 := by decide +kernel
theorem test_V8_43 : (afterHost benchBusy (.write 0x58 4 1)).map statusWord = some 0x401 := by decide +kernel
/-- 95_test_vectors.md 8.1: after FOLD with all three flags set. -/
theorem test_status_all_flags :
    statusWord { bench with done := true, errBusy := true, errCmd := true, errAcc := true } = 0x702 := by decide
/-- P6 of 95_test_vectors.md: a reset in the middle of a compression. -/
theorem test_reset_mid_run : (next? (step ((bench.setSeq 12).setTurns [.reset]))).map (fun s => (s.seq, statusWord s)) =
    some (0, 0) := by decide +kernel

/-! ## Witnesses: the hypotheses of each statement are met together -/

/-- `bench` with the given turns placed. -/
def placed (ts : List Turn) : State := bench.setTurns ts

/-- `benchBusy` with the given turns placed. -/
def placedBusy (ts : List Turn) : State := benchBusy.setTurns ts

theorem witness_DecodeEncodeAgree : (Instr.round 2 7 2).wf = true ∧ Instr.fold.wf = true ∧
    decode (.uop 0x0DE) = .ok (.round 2 7 2) ∧ decode (.cmd 1) = .ok .start := by decide

theorem witness_ReservedMicroOperations : (0x180 : BitVec 9) ∈ microprogram ∧ ((3 : BitVec 2) = 3 ∨ (0 : BitVec 2) = 3) ∧
    ((0 : BitVec 2) = 3 ∨ (3 : BitVec 2) = 3) := by decide

theorem witness_RoundOperands :
    ((0x0FE : BitVec 9) &&& 0x180 = 0x080 ∧ (0x0FE : BitVec 9).extractLsb' 5 2 = 3) ∧
    ((0x083 : BitVec 9) &&& 0x180 = 0x080 ∧ (0x083 : BitVec 9).extractLsb' 0 2 = 3) := by decide

theorem witness_RoundOperands_closed_form : (2 : BitVec 2) ≠ 3 ∧ (0 : BitVec 2) ≠ 3 ∧ (2 < 3 ∧ 7 < 8) := by decide

theorem witness_MicroprogramClosedForm : (0 < 3 ∧ 0 < 8) ∧ (2 < 3 ∧ 7 < 8) := by decide

theorem witness_BlockWordsLittleEndian : (6 : Fin 8) ≠ 7 ∧ [7, 6, 5, 4, 3, 2, 1, 0].Perm (List.range 8) := by decide

theorem witness_RoundIsBijective : ∃ m5 m7 m9 : Word, m5 = 5 ∧ m7 = 7 ∧ m9 = 9 := ⟨5, 7, 9, rfl, rfl, rfl⟩

theorem witness_CompressFunction : ∃ (p q t : Vector Word 3) (x x' x'' : Vector Word 8),
    (∀ i : Fin 8, x[i].toNat =
      ∑ k : Fin 8, ((Vector.replicate 64 (0 : Byte))[8 * i.val + k.val]'(by omega)).toNat * 2 ^ (8 * k.val)) ∧
    p = passFn zeroRom #v[1, 2, 3] x 5 ∧ x' = keySchedule x ∧
    q = passFn zeroRom #v[p[2], p[0], p[1]] x' 7 ∧ x'' = keySchedule x' ∧
    t = passFn zeroRom #v[q[2], q[0], q[1]] x'' 9 :=
  ⟨_, _, _, .replicate 8 0, _, _, by decide, rfl, rfl, rfl, rfl, rfl⟩

theorem witness_NopEffect_and_StartEffect : bench.seq = 0 ∧ benchBusy.seq ≠ 0 := by decide

theorem witness_RoundEffect : ((2 : BitVec 2) ≠ 3 ∧ (2 : BitVec 2) ≠ 3) ∧ ((0 : BitVec 2) ≠ 3 ∧ (0 : BitVec 2) ≠ 3) := by
  decide

theorem witness_WellFormedAccesses :
    (placed [.host (.write 0x60 8 0)]).seq.toNat ≤ 28 ∧
    (placed [.host (.write 0x60 8 0)]).turns = [.host (.write 0x60 8 0)] ∧ (Access.write 0x60 8 0).bad = true ∧
    (Access.read 0x80 1).bad = true ∧ (Access.read 0x41 1).bad = true := by decide

theorem witness_BadAccessEffect :
    (placed [.host (.read 0x68 8)]).seq.toNat ≤ 28 ∧
    (placed [.host (.read 0x68 8)]).turns = [.host (.read 0x68 8)] ∧ wellFormed 0x68 8 = false ∧
    (placedBusy [.host (.write 0x60 8 0)]).seq.toNat ≤ 28 ∧
    (placedBusy [.host (.write 0x60 8 0)]).turns = [.host (.write 0x60 8 0)] ∧
    (wellFormed 0x60 8 = false ∨ 0x60 = 0x60) := by decide

theorem witness_ReadEffect_block : (placedBusy [.host (.read 0x3F 1)]).seq.toNat ≤ 28 ∧
    (placedBusy [.host (.read 0x3F 1)]).turns = [.host (.read 0x3F 1)] ∧ wellFormed 0x3F 1 = true ∧ 0x3F < 0x40 := by decide

theorem witness_ReadEffect_h : (placed [.host (.read 0x50 8)]).seq.toNat ≤ 28 ∧
    (placed [.host (.read 0x50 8)]).turns = [.host (.read 0x50 8)] ∧ wellFormed 0x50 8 = true ∧
    0x50 = 0x40 + 8 * (2 : Fin 3).val := by decide

theorem witness_ReadEffect_cmd_and_status : (placed [.host (.read 0x58 8)]).seq.toNat ≤ 28 ∧
    (placed [.host (.read 0x58 8)]).turns = [.host (.read 0x58 8)] ∧ wellFormed 0x58 8 = true ∧
    (placed [.host (.read 0x60 8)]).turns = [.host (.read 0x60 8)] ∧ wellFormed 0x60 8 = true := by decide

theorem witness_WriteEffect_block : (placed [.host (.write 0x3C 4 0xDEADBEEF)]).seq = 0 ∧
    (placed [.host (.write 0x3C 4 0xDEADBEEF)]).turns = [.host (.write 0x3C 4 0xDEADBEEF)] ∧
    wellFormed 0x3C 4 = true ∧ 0x3C ≠ 0x60 ∧ 0x3C < 0x40 := by decide

theorem witness_WriteEffect_h : (placed [.host (.write 0x50 8 7)]).seq = 0 ∧
    (placed [.host (.write 0x50 8 7)]).turns = [.host (.write 0x50 8 7)] ∧ wellFormed 0x50 8 = true ∧ 0x50 ≠ 0x60 ∧
    0x50 = 0x40 + 8 * (2 : Fin 3).val := by decide

theorem witness_WriteEffect_cmd : (placed [.host (.write 0x58 8 1)]).seq = 0 ∧
    (placed [.host (.write 0x58 8 1)]).turns = [.host (.write 0x58 8 1)] ∧ wellFormed 0x58 8 = true ∧ 0x58 ≠ 0x60 ∧
    decodeCmd 1 = .ok .start ∧ decodeCmd 2 = .error (.reservedCommand 2) := by decide

theorem witness_WriteWhileBusyRefused : ∀ q ∈ ([1, 28] : List (BitVec 5)),
    ((placed [.host (.write 0x58 8 1)]).setSeq q).seq ≠ 0 ∧ ((placed [.host (.write 0x58 8 1)]).setSeq q).seq.toNat ≤ 28 ∧
    ((placed [.host (.write 0x58 8 1)]).setSeq q).turns = [.host (.write 0x58 8 1)] ∧ wellFormed 0x58 8 = true ∧
    0x58 ≠ 0x60 := by decide

theorem witness_ReservedCommand : (2 : Word) ≠ 0 ∧ (2 : Word) ≠ 1 ∧ (0x101 : Word) ≠ 0 ∧ (0x101 : Word) ≠ 1 ∧
    (placed [.host (.write 0x58 8 2)]).turns = [.host (.write 0x58 8 2)] ∧ (placed [.host (.write 0x58 8 2)]).seq = 0 ∧
    (placedBusy [.host (.write 0x58 8 2)]).turns = [.host (.write 0x58 8 2)] ∧
    (placedBusy [.host (.write 0x58 8 2)]).seq ≠ 0 ∧ (placedBusy [.host (.write 0x58 8 2)]).seq.toNat ≤ 28 := by decide

theorem witness_ErrorPriority : (placedBusy [.host (.write 0x60 8 2)]).seq.toNat ≤ 28 ∧
    (placedBusy [.host (.write 0x60 8 2)]).turns = [.host (.write 0x60 8 2)] ∧
    (placedBusy [.host (.read 0x60 8)]).seq.toNat ≤ 28 ∧
    (placedBusy [.host (.read 0x60 8)]).turns = [.host (.read 0x60 8)] := by decide

theorem witness_StatusBits : (placedBusy [.host (.read 0x60 8)]).seq.toNat ≤ 28 ∧
    (placedBusy [.host (.read 0x60 8)]).turns = [.host (.read 0x60 8)] := by decide

theorem witness_ErrorCauses : ∃ t, (nextTurn (placedBusy [.engine])).1 = .engine ∧ step (placedBusy [.engine]) = .next t :=
  ⟨_, rfl, rfl⟩

theorem witness_ErrorCauses_raised : ∃ t, step (placed [.host (.read 0x68 8)]) = .next t ∧
    (placed [.host (.read 0x68 8)]).flag .acc = false ∧ t.flag .acc = true := ⟨_, rfl, rfl, rfl⟩

theorem witness_ErrorDoesNotDisturbEngine : ∃ t, engineTurn exec (bench.setSeq 28) = .next t := ⟨_, rfl⟩

theorem witness_ErrorFlagsSticky_kept : ∃ t, (nextTurn (raiseErr .cmd (placed [.host (.write 0x58 8 1)]))).1 ≠ .reset ∧
    step (raiseErr .cmd (placed [.host (.write 0x58 8 1)])) = .next t ∧
    (raiseErr .cmd (placed [.host (.write 0x58 8 1)])).flag .cmd = true := ⟨_, by decide, rfl, rfl⟩

theorem witness_ErrorFlagsSticky_cleared : ∃ t, (nextTurn (raiseErr .busy (placedBusy [.reset]))).1 = .reset ∧
    step (raiseErr .busy (placedBusy [.reset])) = .next t := ⟨_, rfl, rfl⟩

theorem witness_ReadBackAfterWrite : ∃ t,
    (placed [.host (.write 0x3C 4 0xDEADBEEF), .host (.read 0x3C 4)]).seq = 0 ∧ 0x3C < 0x40 ∧ wellFormed 0x3C 4 = true ∧
    (placed [.host (.write 0x3C 4 0xDEADBEEF), .host (.read 0x3C 4)]).turns =
      [.host (.write 0x3C 4 0xDEADBEEF), .host (.read 0x3C 4)] ∧
    runSteps 2 (placed [.host (.write 0x3C 4 0xDEADBEEF), .host (.read 0x3C 4)]) = .next t :=
  ⟨_, rfl, by decide, by decide, rfl, rfl⟩

theorem witness_StepRunsDecodedOperation : benchBusy.turns = [] ∧ microWord benchBusy.seq = some 0x08C ∧
    decodeUop 0x08C = .ok (.round 0 3 0) ∧ (placedBusy [.engine]).turns = [.engine] ∧
    microWord (placedBusy [.engine]).seq = some 0x08C ∧
    (placed [.host (.write 0x58 8 1)]).seq.toNat ≤ 28 ∧
    (placed [.host (.write 0x58 8 1)]).turns = [.host (.write 0x58 8 1)] ∧ decodeCmd 1 = .ok .start := by decide

theorem witness_EngineSequencing : ∀ q ∈ ([1, 27, 28] : List (BitVec 5)),
    (nextTurn (bench.setSeq q)).1 = .engine ∧ (bench.setSeq q).seq ≠ 0 ∧ (bench.setSeq q).seq.toNat ≤ 28 := by decide

theorem witness_OnlyStartLeavesIdle : ∃ t, (placed [.host (.write 0x58 8 1)]).seq = 0 ∧
    step (placed [.host (.write 0x58 8 1)]) = .next t ∧ t.seq ≠ 0 := ⟨_, rfl, rfl, by decide⟩

theorem witness_IdleEngineHasNoStep : bench.seq = 0 ∧ (nextTurn bench).1 = .engine := by decide

theorem witness_MicroOperationsNeverFail : ((Instr.round 2 7 2).wf = true ∧ Instr.round 2 7 2 ≠ .nop ∧
    Instr.round 2 7 2 ≠ .start) ∧ bench.seq.toNat ≤ 28 ∧ (bench.setSeq 28).seq.toNat ≤ 28 := by decide

theorem witness_ControlIndependentOfData : benchBusy.SameControl ((benchBusy.setH #v[1, 2, 3]).setX (.replicate 8 9)) ∧
    benchBusy.h ≠ ((benchBusy.setH #v[1, 2, 3]).setX (.replicate 8 9)).h := by decide

theorem witness_EveryCompressionFinishes_midway :
    ((bench.setSeq 26).setTurns [.engine, .host (.read 0x60 8), .engine, .reset]).seq ≠ 0 ∧
    ((bench.setSeq 26).setTurns [.engine, .host (.read 0x60 8), .engine, .reset]).seq.toNat ≤ 28 ∧
    ((bench.setSeq 26).setTurns [.engine, .host (.read 0x60 8), .engine, .reset]).turns =
      [.engine, .host (.read 0x60 8), .engine] ++ [.reset] ∧
    Turn.reset ∉ ([.engine, .host (.read 0x60 8), .engine] : List Turn) ∧
    ([.engine, .host (.read 0x60 8), .engine] : List Turn).count .engine <
      29 - ((bench.setSeq 26).setTurns [.engine, .host (.read 0x60 8), .engine, .reset]).seq.toNat := by decide

theorem witness_EveryCompressionFinishes_last :
    ((bench.setSeq 28).setTurns [.host (.read 0x60 8), .engine]).seq ≠ 0 ∧
    ((bench.setSeq 28).setTurns [.host (.read 0x60 8), .engine]).seq.toNat ≤ 28 ∧
    ((bench.setSeq 28).setTurns [.host (.read 0x60 8), .engine]).turns = [.host (.read 0x60 8)] ++ .engine :: [] ∧
    Turn.reset ∉ ([.host (.read 0x60 8)] : List Turn) ∧
    ([.host (.read 0x60 8)] : List Turn).count .engine + 1 =
      29 - ((bench.setSeq 28).setTurns [.host (.read 0x60 8), .engine]).seq.toNat := by decide

theorem witness_EveryCompressionFinishes_alone : ∀ q ∈ ([1, 28] : List (BitVec 5)),
    (bench.setSeq q).seq ≠ 0 ∧ (bench.setSeq q).seq.toNat ≤ 28 ∧ (bench.setSeq q).turns = [] := by decide

theorem witness_MachineComputesCompress :
    let ts := .host (.write 0x00 8 5) :: .host (.read 0x41 1) :: List.replicate 27 Turn.engine
    (placed (.host (.write 0x58 8 1) :: (ts ++ .engine :: []))).seq = 0 ∧
    (placed (.host (.write 0x58 8 1) :: (ts ++ .engine :: []))).turns =
      .host (.write 0x58 8 1) :: (ts ++ .engine :: []) ∧
    Turn.reset ∉ ts ∧ ts.count .engine = 27 := by decide

theorem witness_EveryStepKeepsInvariant : ∃ t, (bench.setSeq 28).Inv ∧ step (bench.setSeq 28) = .next t :=
  ⟨_, by decide, rfl⟩

theorem witness_EveryGoodStateHasSuccessor : benchBusy.Inv ∧ (bench.setDone true).Inv := by decide

theorem witness_RegisterOwnership_fold : ∃ t, (nextTurn (bench.setSeq 28)).1 ≠ .reset ∧
    step (bench.setSeq 28) = .next t ∧ (bench.setSeq 28).seq ≠ 0 ∧ (nextTurn (bench.setSeq 28)).1 = .engine :=
  ⟨_, by decide, rfl, by decide, rfl⟩

theorem witness_RegisterOwnership_host : ∃ t, (nextTurn (placed [.host (.write 0x58 8 1)])).1 ≠ .reset ∧
    step (placed [.host (.write 0x58 8 1)]) = .next t ∧ (nextTurn (placed [.host (.write 0x58 8 1)])).1 ≠ .engine :=
  ⟨_, by decide, rfl, by decide⟩

theorem witness_RomNeverWritten : ∃ t, step (placedBusy [.reset]) = .next t := ⟨_, rfl⟩

theorem witness_HiddenRegistersUnobservable : bench.seq = 0 ∧
    bench.SameVisible ((bench.setX (.replicate 8 9)).setR #v[1, 2, 3]) ∧
    bench.r ≠ ((bench.setX (.replicate 8 9)).setR #v[1, 2, 3]).r :=
  ⟨rfl, ⟨rfl, rfl, rfl, rfl, rfl, rfl, rfl, rfl, rfl, rfl, rfl⟩, by decide⟩

theorem witness_ResetEventEffect : (placedBusy [.reset]).turns = [.reset] ∧
    ((bench.setSeq 31).setTurns [.reset]).turns = [.reset] := by decide

end Sys2Proof.Tests
end

section
/-! Control never depends on data (00_scope.md R8): a relation between outcomes, carried through the operations, the host's
accesses, the turns and the step, each on two states that agree on control. -/

namespace Sys2Proof.Machine

/-- Two outcomes agree on control: both go on in states that agree on control, or both are refused for one reason. -/
def SameOutcome (o o' : Result) : Prop :=
  (∃ t t', o = .next t ∧ o' = .next t' ∧ t.SameControl t') ∨ (∃ e, o = .refused e ∧ o' = .refused e)

theorem SameOutcome.next {t t' : State} (hc : t.SameControl t') : SameOutcome (.next t) (.next t') :=
  .inl ⟨t, t', rfl, rfl, hc⟩

theorem SameOutcome.refused (e : Refusal) : SameOutcome (.refused e) (.refused e) := .inr ⟨e, rfl, rfl⟩

section Pairs
variable {s s' : State} (hc : s.SameControl s')
include hc

theorem State.SameControl.seq_eq : s.seq = s'.seq := by
  obtain ⟨hseq, -⟩ := hc
  exact hseq

theorem State.SameControl.turns_eq : s.turns = s'.turns := by
  obtain ⟨-, -, -, -, -, hturns, -⟩ := hc
  exact hturns

theorem State.SameControl.busy_eq : s.busy = s'.busy := by rw [State.busy, hc.seq_eq, State.busy]

/-! Writes to the data registers and replies keep the agreement, whatever the two values are. -/
theorem State.SameControl.setH (v v' : Vector Word 3) : (s.setH v).SameControl (s'.setH v') := hc
theorem State.SameControl.setBlk (v v' : Vector Byte 64) : (s.setBlk v).SameControl (s'.setBlk v') := hc
theorem State.SameControl.setX (v v' : Vector Word 8) : (s.setX v).SameControl (s'.setX v') := hc
theorem State.SameControl.setR (v v' : Vector Word 3) : (s.setR v).SameControl (s'.setR v') := hc
theorem State.SameControl.reply (v v' : Word) : (s.reply v).SameControl (s'.reply v') := hc

/-! Writes to the control registers keep it when both states get the same value. -/
theorem State.SameControl.setSeq (v : BitVec 5) : (s.setSeq v).SameControl (s'.setSeq v) := by
  obtain ⟨-, hrest⟩ := hc
  exact ⟨rfl, hrest⟩

theorem State.SameControl.setDone (v : Bool) : (s.setDone v).SameControl (s'.setDone v) := by
  obtain ⟨hseq, -, hrest⟩ := hc
  exact ⟨hseq, rfl, hrest⟩

theorem State.SameControl.setTurns (v : List Turn) : (s.setTurns v).SameControl (s'.setTurns v) := by
  obtain ⟨hseq, hdone, hbusy, hcmd, hacc, -, hdraws⟩ := hc
  exact ⟨hseq, hdone, hbusy, hcmd, hacc, rfl, hdraws⟩

theorem State.SameControl.advanceSeq : (advanceSeq s).SameControl (advanceSeq s') := by
  rw [Machine.advanceSeq, Machine.advanceSeq, hc.seq_eq]
  exact hc.setSeq _

theorem State.SameControl.raiseErr (f : ErrCause) : (raiseErr f s).SameControl (raiseErr f s') := by
  obtain ⟨hseq, hdone, hbusy, hcmd, hacc, hturns, hdraws⟩ := hc
  simp [State.sameControl_iff, hseq, hdone, hbusy, hcmd, hacc, hturns, hdraws]

theorem State.SameControl.resetEvent : (resetEvent s).SameControl (resetEvent s') := by
  obtain ⟨-, -, -, -, -, hturns, hdraws⟩ := hc
  simp [State.sameControl_iff, hturns, hdraws]

theorem execNop_sameOutcome : SameOutcome (execNop s) (execNop s') := by
  by_cases h : s.seq = 0
  · rw [execNop_idle h, execNop_idle (hc.seq_eq ▸ h)]
    exact .next hc
  · rw [execNop_busy h, execNop_busy (hc.seq_eq ▸ h)]
    exact .next (hc.raiseErr .busy)

theorem execStart_sameOutcome : SameOutcome (execStart s) (execStart s') := by
  by_cases h : s.seq = 0
  · rw [execStart_idle h, execStart_idle (hc.seq_eq ▸ h)]
    exact .next ((hc.setDone false).setSeq 1)
  · rw [execStart_busy h, execStart_busy (hc.seq_eq ▸ h)]
    exact .next (hc.raiseErr .busy)

theorem execRound_sameOutcome (rot : BitVec 2) (widx : BitVec 3) (msel : BitVec 2) :
    SameOutcome (execRound rot widx msel s) (execRound rot widx msel s') := by
  by_cases h : rot = 3 ∨ msel = 3
  · rw [execRound_reserved s _ _ _ h, execRound_reserved s' _ _ _ h]
    exact .refused _
  · obtain ⟨hr, hm⟩ := not_or.mp h
    rw [execRound_legal s _ _ _ hr hm, execRound_legal s' _ _ _ hr hm]
    exact .next (hc.setR _ _).advanceSeq

/-- An operation's control effect is a function of the operation and the control registers. -/
theorem exec_sameOutcome (i : Instr) : SameOutcome (exec i s) (exec i s') := by
  cases i with
  | nop => exact execNop_sameOutcome hc
  | start => exact execStart_sameOutcome hc
  | load => exact .next ((hc.setX _ _).setR _ _).advanceSeq
  | round rot widx msel => exact execRound_sameOutcome hc rot widx msel
  | ksched => exact .next (hc.setX _ _).advanceSeq
  | fold => exact .next (((hc.setH _ _).setDone true).setSeq 0)

/-- The engine picks its micro-operation by `SEQ` alone (42_pass_sequencer.md R95). -/
theorem engineTurn_sameOutcome : SameOutcome (engineTurn exec s) (engineTurn exec s') := by
  by_cases h0 : s.seq = 0
  · rw [engineTurn_idle h0, engineTurn_idle (hc.seq_eq ▸ h0)]
    exact .next hc
  by_cases hl : s.seq.toNat ≤ 28
  · obtain ⟨u, i, hu, hi, -⟩ := microWord_decodes s.seq h0 hl
    rw [engineTurn_of_word hu hi, engineTurn_of_word (hc.seq_eq ▸ hu) hi]
    exact exec_sameOutcome hc i
  · have hl : 28 < s.seq.toNat := not_le.mp hl
    rw [engineTurn_illegal hl, engineTurn_illegal (hc.seq_eq ▸ hl)]
    exact .refused _

theorem hostRead_sameOutcome (off n : Nat) : SameOutcome (hostRead off n s) (hostRead off n s') := by
  unfold hostRead
  split
  · exact .next (hc.reply _ _)
  · exact .next ((hc.raiseErr .acc).reply 0 0)

theorem hostCommand_sameOutcome (v : Word) : SameOutcome (hostCommand exec v s) (hostCommand exec v s') := by
  unfold hostCommand
  cases decodeCmd v with
  | ok i => exact exec_sameOutcome hc i
  | error e => exact .next (hc.raiseErr .cmd)

theorem performWrite_sameOutcome (off n : Nat) (v : Word) :
    SameOutcome (performWrite exec off n v s) (performWrite exec off n v s') := by
  unfold performWrite
  split_ifs
  · exact .next (hc.setBlk _ _)
  · exact .next (hc.setH _ _)
  · exact .next (hc.setH _ _)
  · exact .next (hc.setH _ _)
  · exact hostCommand_sameOutcome hc v

theorem hostWrite_sameOutcome (off n : Nat) (v : Word) :
    SameOutcome (hostWrite exec off n v s) (hostWrite exec off n v s') := by
  unfold hostWrite
  rw [hc.busy_eq]
  split_ifs
  · exact .next (hc.raiseErr .busy)
  · exact performWrite_sameOutcome hc off n v
  · exact .next (hc.raiseErr .acc)

theorem hostTurn_sameOutcome (a : Access) :
    SameOutcome (takeTurn exec (.host a) s) (takeTurn exec (.host a) s') := by
  by_cases hl : s.seq.toNat ≤ 28
  · rw [takeTurn_host hl, takeTurn_host (hc.seq_eq ▸ hl)]
    cases a with
    | read off n => exact hostRead_sameOutcome hc off n
    | write off n v => exact hostWrite_sameOutcome hc off n v
  · rw [takeTurn_host_illegal hl, takeTurn_host_illegal (hc.seq_eq ▸ hl)]
    exact .refused _

theorem takeTurn_sameOutcome (t : Turn) : SameOutcome (takeTurn exec t s) (takeTurn exec t s') := by
  cases t with
  | engine => exact engineTurn_sameOutcome hc
  | host a => exact hostTurn_sameOutcome hc a
  | reset => exact .next hc.resetEvent

/-- States that agree on control take the same turn, so the step carries the agreement. -/
theorem step_sameOutcome : SameOutcome (step s) (step s') := by
  rw [step_eq_takeTurn, step_eq_takeTurn, nextTurn_congr hc.turns_eq, hc.turns_eq]
  exact takeTurn_sameOutcome (hc.setTurns _) _

end Pairs

/-- Settles O41: the step carries agreement on control, turn by turn and operation by operation. -/
theorem controlIndependentOfData : Obligations.ControlIndependentOfData := by
  unfold Obligations.ControlIndependentOfData
  intro s s' hc
  exact step_sameOutcome hc

end Sys2Proof.Machine
end

section
/-! `STATUS` (10_state.md R17): which flag each bit of it shows, and that a well-formed read answers its value of that moment. -/

namespace Sys2Proof.Machine

theorem busy_eq_decide (s : State) : s.busy = decide (s.seq ≠ 0) := by
  rw [Bool.eq_iff_iff, busy_iff, decide_eq_true_iff]

theorem bitAt_getLsbD (b : Bool) {n : Nat} (hn : n < 64) (i : Nat) : (bitAt b n).getLsbD i = (decide (i = n) && b) := by
  cases b with
  | false => simp [bitAt]
  | true =>
    have hbit : (bitAt true n).getLsbD i = (decide (n < 64) && decide (n = i)) := BitVec.getLsbD_twoPow n i
    simp [hbit, hn, eq_comm]

/-- `STATUS` shows the five flags at five different bits and 0 at every other one. -/
theorem statusWord_getLsbD (s : State) (i : Nat) : (statusWord s).getLsbD i =
    ((decide (i = 0) && s.busy) || (decide (i = 1) && s.done) || (decide (i = 8) && s.errBusy) ||
      (decide (i = 9) && s.errCmd) || (decide (i = 10) && s.errAcc)) := by
  simp [statusWord, ErrCause.code, bitAt_getLsbD]

theorem writable_status (n : Nat) : writable offStatus n = false := by simp [writable]

theorem readValue_status (n : Nat) (s : State) : readValue offStatus n s = statusWord s := rfl

/-- A well-formed read answers the value of the state it is taken on and has no other effect (20_memory.md R36). -/
theorem hostRead_wellFormed {off n : Nat} (h : wellFormed off n = true) (s : State) :
    hostRead off n s = .next (s.reply (readValue off n s)) := by
  rw [hostRead, if_pos h]

theorem step_read_status {s : State} {ts : List Turn} (hl : s.seq.toNat ≤ 28)
    (ht : s.turns = .host (.read offStatus 8) :: ts) : step s = .next ((s.setTurns ts).reply (statusWord s)) := by
  calc step s
    _ = hostRead offStatus 8 (s.setTurns ts) := by
      have hl' : (s.setTurns ts).seq.toNat ≤ 28 := hl
      rw [step_cons ht, takeTurn_host hl', hostAccess]
    _ = .next ((s.setTurns ts).reply (statusWord (s.setTurns ts))) := by
      rw [hostRead_wellFormed (by decide), readValue_status]
    _ = .next ((s.setTurns ts).reply (statusWord s)) := rfl

/-- Settles O31: the bits of `STATUS`, the refused write, the read of the moment, and the value after reset. -/
theorem statusBits : Obligations.StatusBits := by
  unfold Obligations.StatusBits
  refine ⟨fun s i => ?bits, fun n v => ?write, fun s ts hl ht => ?read, ?reset⟩
  case bits =>
    rw [statusWord_getLsbD, busy_eq_decide]
    split_ifs <;> simp [*]
  case write =>
    have hw : writable 0x60 n = false := writable_status n
    rw [Access.bad, hw, Bool.not_false]
  case read => exact step_read_status hl ht
  case reset => decide

end Sys2Proof.Machine
end

section
/-! Block words and byte stores (20_memory.md R32, R33): a block word as a sum of its bytes, and the eight bytes of a word stored
one at a time. -/

namespace Sys2Proof.Machine

/-- A number by its digits, the least significant first, as a sum. -/
theorem ofDigits_ofFn (b : Nat) {n : Nat} (f : Fin n → Nat) :
    Nat.ofDigits b (List.ofFn f) = ∑ k : Fin n, f k * b ^ k.val := by
  induction n with
  | zero => simp
  | succ n ih =>
    rw [List.ofFn_succ, Nat.ofDigits_cons, ih, Fin.sum_univ_succ, Finset.mul_sum]
    congr 1
    · simp
    · refine Finset.sum_congr rfl fun k _ => ?_
      rw [Fin.val_succ, pow_succ']
      exact Nat.mul_left_comm _ _ _

/-- A block word as a number (20_memory.md R33). -/
theorem blockWord_toNat (blk : Vector Byte 64) (i : Fin 8) :
    (blockWord blk i).toNat = ∑ k : Fin 8, (blk[8 * i.val + k.val]'(by omega)).toNat * 2 ^ (8 * k.val) := by
  have hbytes : ((List.range 8).map fun k => byteAt blk (8 * i.val + k)).map BitVec.toNat =
      List.ofFn fun k : Fin 8 => (blk[8 * i.val + k.val]'(by omega)).toNat := by
    refine List.ext_getElem (by simp) fun k hk _ => ?_
    have hk8 : k < 8 := by simpa using hk
    rw [List.getElem_ofFn, List.getElem_map, List.getElem_map, List.getElem_range, byteAt_of_lt (by omega)]
  obtain ⟨hval, -⟩ := leWord_toNat ((List.range 8).map fun k => byteAt blk (8 * i.val + k)) (by simp)
  rw [blockWord, blockValue, hval, hbytes, ofDigits_ofFn]
  exact Finset.sum_congr rfl fun k _ => by rw [pow_mul]; rfl

/-- An eight-byte store at a block word makes it the stored word (20_memory.md R33). -/
theorem blockWord_storeBytes_same (blk : Vector Byte 64) (i : Fin 8) (w : Word) :
    blockWord (storeBytes blk (8 * i) 8 w) i = w := by
  refine word_eq_of_bytes fun k hk => ?_
  rw [byteOf_blockWord _ _ _ hk, byteAt_storeBytes _ _ _ _ _ (by omega), if_pos (by omega), Nat.add_sub_cancel_left]

theorem blockWord_storeBytes_other (blk : Vector Byte 64) {i j : Fin 8} (h : j ≠ i) (w : Word) :
    blockWord (storeBytes blk (8 * i) 8 w) j = blockWord blk j := by
  have hne : j.val ≠ i.val := Fin.val_ne_of_ne h
  refine word_eq_of_bytes fun k hk => ?_
  rw [byteOf_blockWord _ _ _ hk, byteOf_blockWord _ _ _ hk, byteAt_storeBytes _ _ _ _ _ (by omega), if_neg (by omega)]

/-- The one-byte store of byte `k` of `w` to its place in the word at offset `base` (20_memory.md R32). -/
def storeByteOf (w : Word) (base : Nat) (blk : Vector Byte 64) (k : Nat) : Vector Byte 64 :=
  storeBytes blk (base + k) 1 ((byteOf w k).setWidth 64)

theorem byteAt_storeByteOf (w : Word) (base : Nat) (blk : Vector Byte 64) (k i : Nat) (hi : i < 64) :
    byteAt (storeByteOf w base blk k) i = if i = base + k then byteOf w k else byteAt blk i := by
  rw [storeByteOf, byteAt_storeBytes _ _ _ _ _ hi]
  by_cases h : i = base + k
  · have h0 : byteOf ((byteOf w k).setWidth 64) 0 = byteOf w k := by
      rw [byteOf, BitVec.extractLsb'_setWidth_of_le (by decide), BitVec.extractLsb'_eq_self]
    rw [if_pos (by omega), if_pos h, h, Nat.sub_self, h0]
  · rw [if_neg (by omega), if_neg h]

/-- Storing some bytes of a word one at a time: each stored byte is in place, whatever the order. -/
theorem byteAt_foldl_storeByteOf (w : Word) (base : Nat) (order : List Nat) (blk : Vector Byte 64) (i : Nat) (hi : i < 64) :
    byteAt (order.foldl (storeByteOf w base) blk) i =
      if base ≤ i ∧ i - base ∈ order then byteOf w (i - base) else byteAt blk i := by
  induction order generalizing blk with
  | nil => simp
  | cons k ks ih =>
    rw [List.foldl_cons, ih, byteAt_storeByteOf _ _ _ _ _ hi]
    by_cases hks : base ≤ i ∧ i - base ∈ ks
    · rw [if_pos hks, if_pos ⟨hks.1, List.mem_cons_of_mem k hks.2⟩]
    · rw [if_neg hks]
      by_cases hk : i = base + k
      · subst hk
        simp
      · rw [if_neg hk, if_neg]
        rintro ⟨hle, hmem⟩
        rcases List.mem_cons.mp hmem with he | hmem
        · omega
        · exact hks ⟨hle, hmem⟩

/-- The eight bytes of a word stored one at a time in any order are its eight-byte store (20_memory.md R33). -/
theorem foldl_storeByteOf_eq_storeBytes (blk : Vector Byte 64) (base : Nat) (w : Word) {order : List Nat}
    (horder : order.Perm (List.range 8)) : order.foldl (storeByteOf w base) blk = storeBytes blk base 8 w := by
  refine block_eq_of_bytes fun i hi => ?_
  have hmem : base ≤ i ∧ i - base ∈ order ↔ base ≤ i ∧ i < base + 8 := by
    rw [horder.mem_iff, List.mem_range]
    omega
  rw [byteAt_foldl_storeByteOf _ _ _ _ _ hi, byteAt_storeBytes _ _ _ _ _ hi]
  simp only [hmem]

/-- Settles O10: the sum of the bytes, LOAD, the eight-byte store, and the eight one-byte stores. -/
theorem blockWordsLittleEndian : Obligations.BlockWordsLittleEndian := by
  unfold Obligations.BlockWordsLittleEndian
  refine ⟨blockWord_toNat, fun s => ⟨_, rfl, fun i => ?load⟩,
    fun blk i w => ⟨blockWord_storeBytes_same blk i w, fun j hj => blockWord_storeBytes_other blk hj w⟩,
    fun blk i w order horder => foldl_storeByteOf_eq_storeBytes blk (8 * i) w horder⟩
  case load => simp [blockWords]

end Sys2Proof.Machine
end

section
/-! The register window (20_memory.md sections 3 to 5): which accesses are well-formed, what each access does to the state, and
the steps of the host that follow from it. -/

namespace Sys2Proof.Machine

/-! Which accesses are well-formed (20_memory.md R34). -/

theorem wellFormed_iff (off n : Nat) : wellFormed off n = true ↔
    (n = 1 ∨ n = 2 ∨ n = 4 ∨ n = 8) ∧ off % n = 0 ∧ off + n ≤ 0x80 ∧ (0x40 ≤ off → off < 0x68 → n = 8) ∧ off < 0x68 := by
  simp only [wellFormed, Bool.and_eq_true, Bool.or_eq_true, beq_iff_eq, decide_eq_true_eq]
  constructor <;> intro h <;> omega

/-- A well-formed access to `BLK` lies wholly inside it, since its size divides 64 and its offset (20_memory.md R34). -/
theorem wellFormed_inside_block {off n : Nat} (hw : wellFormed off n = true) (hoff : off < 0x40) :
    n ≤ 8 ∧ off + n ≤ 64 := by
  obtain ⟨hn, hal, -⟩ := (wellFormed_iff off n).mp hw
  rcases hn with rfl | rfl | rfl | rfl <;> omega

/-- The only well-formed accesses that no write may make are those to `STATUS` (20_memory.md R34). -/
theorem writable_iff (off n : Nat) : writable off n = true ↔ wellFormed off n = true ∧ off ≠ 0x60 := by
  have hlast : wellFormed off n = true → (off < offStatus ↔ off ≠ 0x60) := by
    intro hw
    obtain ⟨-, hal, -, hsize, hoff⟩ := (wellFormed_iff off n).mp hw
    constructor
    · rintro h rfl
      exact absurd h (by decide)
    · intro h
      show off < 0x60
      by_contra hge
      obtain rfl := hsize (by omega) hoff
      omega
  rw [writable, Bool.and_eq_true, decide_eq_true_iff]
  exact and_congr_right hlast

theorem writable_eq_false_iff (off n : Nat) : writable off n = false ↔ wellFormed off n = false ∨ off = 0x60 := by
  rw [← Bool.not_eq_true, writable_iff, not_and_or, not_not, Bool.not_eq_true]

/-! What a read or a write does, by the case of the decision (20_memory.md R35 to R38). -/

section Access
variable {off n : Nat}

theorem hostRead_bad (h : wellFormed off n = false) (s : State) :
    hostRead off n s = .next ((raiseErr .acc s).reply 0) := by
  simp [hostRead, h]

theorem hostWrite_bad {run : Instr → State → Result} (h : writable off n = false) (v : Word) (s : State) :
    hostWrite run off n v s = .next (raiseErr .acc s) := by
  simp [hostWrite, h]

theorem hostWrite_busy {run : Instr → State → Result} (h : writable off n = true) (v : Word) {s : State} (hs : s.seq ≠ 0) :
    hostWrite run off n v s = .next (raiseErr .busy s) := by
  rw [hostWrite, if_pos h, if_pos ((busy_iff s).mpr hs)]

theorem hostWrite_idle {run : Instr → State → Result} (h : writable off n = true) (v : Word) {s : State} (hs : s.seq = 0) :
    hostWrite run off n v s = performWrite run off n v s := by
  simp [hostWrite, h, hs]

/-- A bad access stores nothing (20_memory.md R34, R35). -/
theorem hostAccess_bad_stores_nothing {a : Access} (h : a.bad = true) (s : State) :
    ∃ t, hostAccess exec a s = .next t ∧ t.blk = s.blk ∧ t.h = s.h ∧ t.seq = s.seq := by
  cases a with
  | read off n =>
    rw [Access.bad, Bool.not_eq_true'] at h
    exact ⟨_, hostRead_bad h s, by simp⟩
  | write off n v =>
    rw [Access.bad, Bool.not_eq_true'] at h
    exact ⟨_, hostWrite_bad h v s, by simp⟩

end Access

/-! What the window holds at each offset (20_memory.md R31, R36, R37). -/

theorem readValue_block {off : Nat} (h : off < 0x40) (n : Nat) (s : State) :
    readValue off n s = blockValue s.blk off n := if_pos h

theorem readValue_h (j : Fin 3) (n : Nat) (s : State) : readValue (offH j) n s = s.h[j] := by
  fin_cases j <;> rfl

theorem readValue_cmd (n : Nat) (s : State) : readValue offCmd n s = 0 := rfl

section Perform
variable (run : Instr → State → Result) (n : Nat) (v : Word) (s : State)

theorem performWrite_block {off : Nat} (h : off < 0x40) :
    performWrite run off n v s = .next (s.setBlk (storeBytes s.blk off n v)) := if_pos h

theorem performWrite_h (j : Fin 3) : performWrite run (offH j) n v s = .next (s.setH (s.h.set j v)) := by
  fin_cases j <;> rfl

theorem performWrite_cmd : performWrite run offCmd n v s = hostCommand run v s := rfl

end Perform

theorem byteOf_of_ge (v : Word) {k : Nat} (h : 8 ≤ k) : byteOf v k = 0 := by
  refine BitVec.eq_of_getLsbD_eq fun j _ => ?_
  rw [byteOf_getLsbD, BitVec.getLsbD_of_ge v _ (by omega), Bool.and_false]
  exact BitVec.getLsbD_zero.symm

/-- Every byte of a well-formed read of `BLK`: the addressed bytes, and zero above them (20_memory.md R36). -/
theorem byteOf_blockValue_wellFormed (blk : Vector Byte 64) {off n : Nat} (hw : wellFormed off n = true) (hoff : off < 0x40)
    (k : Nat) : byteOf (blockValue blk off n) k = if h : k < n ∧ off + k < 64 then blk[off + k]'h.2 else 0 := by
  obtain ⟨hn, hin⟩ := wellFormed_inside_block hw hoff
  by_cases hk : k < n
  · have hlt : off + k < 64 := by omega
    rw [byteOf_blockValue _ _ _ _ (by omega), if_pos hk, dif_pos ⟨hk, hlt⟩, byteAt_of_lt hlt]
  · rw [dif_neg fun h => hk h.1]
    by_cases h8 : k < 8
    · rw [byteOf_blockValue _ _ _ _ h8, if_neg hk]
    · exact byteOf_of_ge _ (by omega)

/-! The host's steps. -/

section HostStep
variable {s : State} {ts : List Turn} {off n : Nat} {v : Word}

theorem step_host {a : Access} (hl : s.seq.toNat ≤ 28) (ht : s.turns = .host a :: ts) :
    step s = hostAccess exec a (s.setTurns ts) := by
  have hl' : (s.setTurns ts).seq.toNat ≤ 28 := hl
  rw [step_cons ht, takeTurn_host hl']

theorem step_read_wellFormed (hl : s.seq.toNat ≤ 28) (ht : s.turns = .host (.read off n) :: ts)
    (hw : wellFormed off n = true) : step s = .next ((s.setTurns ts).reply (readValue off n s)) := by
  rw [step_host hl ht, hostAccess, hostRead_wellFormed hw]
  rfl

theorem step_write_idle (hs : s.seq = 0) (ht : s.turns = .host (.write off n v) :: ts) (hw : writable off n = true) :
    step s = performWrite exec off n v (s.setTurns ts) := by
  have hl : s.seq.toNat ≤ 28 := by simp [hs]
  have hs' : (s.setTurns ts).seq = 0 := hs
  rw [step_host hl ht, hostAccess, hostWrite_idle hw v hs']

end HostStep

/-- Settles O24: the conditions of R34, the write to `STATUS`, and the step of a bad access. -/
theorem wellFormedAccesses : Obligations.WellFormedAccesses := by
  unfold Obligations.WellFormedAccesses
  refine ⟨wellFormed_iff, fun off n v => ⟨rfl, ?_⟩, fun s ts a hl ht hbad => ?_⟩
  · rw [Access.bad, Bool.not_eq_false', writable_iff]
  · rw [step_host hl ht]
    exact hostAccess_bad_stores_nothing hbad (s.setTurns ts)

/-- Settles O25: a bad access raises `ERR_ACC` alone; a bad read also answers zero. -/
theorem badAccessEffect : Obligations.BadAccessEffect := by
  unfold Obligations.BadAccessEffect
  refine fun s ts hl => ⟨fun off n ht hbad => ?_, fun off n v ht hbad => ?_⟩
  · rw [step_host hl ht, hostAccess, hostRead_bad hbad]
    rfl
  · rw [step_host hl ht, hostAccess, hostWrite_bad ((writable_eq_false_iff off n).mpr hbad)]
    rfl

/-- Settles O26: the value a well-formed read returns, region by region. -/
theorem readEffect : Obligations.ReadEffect := by
  unfold Obligations.ReadEffect
  intro s ts off n hl ht hw
  refine ⟨readValue off n s, step_read_wellFormed hl ht hw, fun hoff k => ?block, fun j hoff => ?h, fun hoff => ?cmd,
    fun hoff => ?status⟩
  case block =>
    rw [readValue_block hoff]
    exact byteOf_blockValue_wellFormed s.blk hw hoff k
  case h => exact hoff ▸ readValue_h j n s
  case cmd => exact hoff ▸ readValue_cmd n s
  case status => exact hoff ▸ readValue_status n s

/-- Settles O27: the effect of a well-formed write while idle, region by region. -/
theorem writeEffect : Obligations.WriteEffect := by
  unfold Obligations.WriteEffect
  intro s ts off n v hs ht hw hst
  rw [step_write_idle hs ht ((writable_iff off n).mpr ⟨hw, hst⟩)]
  refine ⟨fun hoff => ?block, fun j hoff => ?h, fun hoff => ?cmd⟩
  case block =>
    rw [performWrite_block exec n v _ hoff]
    refine ⟨_, rfl, fun i => ?_, rfl⟩
    simp [storeBytes, byteOf]
  case h =>
    obtain rfl : off = offH j := hoff
    exact performWrite_h exec n v _ j
  case cmd =>
    obtain rfl : off = offCmd := hoff
    rw [performWrite_cmd, hostCommand]
    cases decodeCmd v <;> rfl

/-- Settles O28: while busy, a write that is no bad access raises `ERR_BUSY` alone. -/
theorem writeWhileBusyRefused : Obligations.WriteWhileBusyRefused := by
  unfold Obligations.WriteWhileBusyRefused
  intro s ts off n v hs hl ht hw hst
  have hs' : (s.setTurns ts).seq ≠ 0 := hs
  rw [step_host hl ht, hostAccess, hostWrite_busy ((writable_iff off n).mpr ⟨hw, hst⟩) v hs']
  rfl

end Sys2Proof.Machine
end

section
/-! The decoders against the encoder (30_encoding.md sections 2 and 3): a decoder accepts exactly the words the encoder gives for
well-formed operations, so each row of the two opcode tables is read off the encoder. -/

namespace Sys2Proof

/-- The command decoder accepts exactly the encoder's command words (30_encoding.md R52). -/
theorem decodeCmd_eq_ok_iff (v : Word) (i : Instr) : decodeCmd v = .ok i ↔ encode i = .cmd v := by
  rw [decodeCmd_eq]
  constructor
  · split_ifs with h0 h1
    · rintro ⟨⟩
      rw [h0, encode]
    · rintro ⟨⟩
      rw [h1, encode]
    · rintro ⟨⟩
  · intro h
    cases i <;> cases h <;> rfl

theorem decodeCmd_reserved {v : Word} (h0 : v ≠ 0) (h1 : v ≠ 1) : decodeCmd v = .error (.reservedCommand v) := by
  rw [decodeCmd_eq, if_neg h0, if_neg h1]

theorem decodeUop_round {u : BitVec 9} (hop : uopOp u = 0b01) (hr : uopRot u ≠ 3) (hm : uopMsel u ≠ 3) :
    decodeUop u = .ok (.round (uopRot u) (uopWidx u) (uopMsel u)) := by
  rw [decodeUop, if_pos hop, if_neg (not_or.mpr ⟨hr, hm⟩)]

theorem decodeUop_round_reserved {u : BitVec 9} (hop : uopOp u = 0b01) (h : uopRot u = 3 ∨ uopMsel u = 3) :
    decodeUop u = .error (.reservedMicroOp u) := by
  rw [decodeUop, if_pos hop, if_pos h]

theorem Instr.wf_round_iff (rot : BitVec 2) (widx : BitVec 3) (msel : BitVec 2) :
    (Instr.round rot widx msel).wf = true ↔ rot ≠ 3 ∧ msel ≠ 3 := by
  rw [Instr.wf, Bool.and_eq_true, bne_iff_ne, bne_iff_ne]

/-- What the micro-operation decoder accepts is well-formed and is encoded by the word it was decoded from. -/
theorem encode_of_decodeUop {u : BitVec 9} {i : Instr} (h : decodeUop u = .ok i) : i.wf = true ∧ encode i = .uop u := by
  have eq_of_op {op : BitVec 2} (hz : uopOperands u = 0) (hop : uopOp u = op) : op ++ (0 : BitVec 7) = u :=
    hop ▸ (word_of_op u hz).symm
  rw [decodeUop] at h
  split_ifs at h with hop hres hz h0 h2
  · cases h
    exact ⟨(Instr.wf_round_iff ..).mpr (not_or.mp hres), congrArg Code.uop (roundWord_of_fields u hop)⟩
  · cases h
    exact ⟨rfl, congrArg Code.uop (eq_of_op hz h0)⟩
  · cases h
    exact ⟨rfl, congrArg Code.uop (eq_of_op hz h2)⟩
  · cases h
    have h3 : ∀ op : BitVec 2, op ≠ 0b01 → op ≠ 0b00 → op ≠ 0b10 → op = 0b11 := by decide
    exact ⟨rfl, congrArg Code.uop (eq_of_op hz (h3 _ hop h0 h2))⟩

/-- The ROUND word of legal operands decodes to that ROUND (30_encoding.md R55). -/
theorem decodeUop_roundWord {rot msel : BitVec 2} (widx : BitVec 3) (hr : rot ≠ 3) (hm : msel ≠ 3) :
    decodeUop (roundWord rot widx msel) = .ok (.round rot widx msel) := by
  obtain ⟨hop, hrot, hwidx, hmsel⟩ := roundWord_fields rot widx msel
  rw [decodeUop_round hop (by rwa [hrot]) (by rwa [hmsel]), hrot, hwidx, hmsel]

/-- The micro-operation decoder accepts exactly the encoder's words of well-formed micro-operations (30_encoding.md R55). -/
theorem decodeUop_eq_ok_iff (u : BitVec 9) (i : Instr) : decodeUop u = .ok i ↔ i.wf = true ∧ encode i = .uop u := by
  refine ⟨encode_of_decodeUop, ?_⟩
  rintro ⟨hwf, h⟩
  cases i with
  | nop | start => cases h
  | load | ksched | fold => cases h; rfl
  | round rot widx msel =>
    cases h
    obtain ⟨hr, hm⟩ := (Instr.wf_round_iff ..).mp hwf
    exact decodeUop_roundWord widx hr hm

/-- The word of a well-formed micro-operation is the only one that decodes to it. -/
theorem decodeUop_eq_ok_iff_eq_word {i : Instr} {w : BitVec 9} (hwf : i.wf = true) (hw : encode i = .uop w) (u : BitVec 9) :
    decodeUop u = .ok i ↔ u = w := by
  rw [decodeUop_eq_ok_iff, and_iff_right hwf, hw, Code.uop.injEq, eq_comm]

theorem decodeUop_eq_round_iff (u : BitVec 9) (rot : BitVec 2) (widx : BitVec 3) (msel : BitVec 2) :
    decodeUop u = .ok (.round rot widx msel) ↔ u = roundWord rot widx msel ∧ rot ≠ 3 ∧ msel ≠ 3 := by
  rw [decodeUop_eq_ok_iff, Instr.wf_round_iff, encode, Code.uop.injEq, and_comm, eq_comm]

/-- Which words are some ROUND, by the fields of the word (30_encoding.md R54, R55). -/
theorem exists_decodeUop_eq_round_iff (u : BitVec 9) : (∃ rot widx msel, decodeUop u = .ok (.round rot widx msel)) ↔
    uopOp u = 0b01 ∧ uopRot u ≠ 3 ∧ uopMsel u ≠ 3 := by
  constructor
  · rintro ⟨rot, widx, msel, h⟩
    obtain ⟨rfl, hr, hm⟩ := (decodeUop_eq_round_iff ..).mp h
    obtain ⟨hop, hrot, -, hmsel⟩ := roundWord_fields rot widx msel
    exact ⟨hop, by rwa [hrot], by rwa [hmsel]⟩
  · rintro ⟨hop, hr, hm⟩
    exact ⟨_, _, _, decodeUop_round hop hr hm⟩

/-- The mask `0x180` selects the field `op` (30_encoding.md R54, R55). -/
theorem and_opMask_eq_iff (u : BitVec 9) : u &&& 0x180 = 0x080 ↔ uopOp u = 0b01 := by
  revert u; decide +kernel

/-- Settles O1: the two command words, under the full mask. -/
theorem commandTable : Obligations.CommandTable := by
  unfold Obligations.CommandTable
  have hmask (v : Word) : v &&& 0xFFFFFFFFFFFFFFFF = v := BitVec.and_allOnes
  refine ⟨fun v => ?_, fun v => ?_⟩ <;> rw [decodeCmd_eq_ok_iff, hmask, encode, Code.cmd.injEq, eq_comm]

/-- Settles O2: the words of the three operations without operands, and those of ROUND by field and by value. -/
theorem microOperationTable : Obligations.MicroOperationTable := by
  unfold Obligations.MicroOperationTable
  have hmask (u : BitVec 9) : u &&& 0x1FF = u := BitVec.and_allOnes
  refine ⟨fun u => ?load, fun u => ?ksched, fun u => ?fold, fun u => ?round, fun u rot widx msel => ?value⟩
  case load | ksched | fold => rw [hmask, decodeUop_eq_ok_iff_eq_word rfl rfl]
  case round =>
    rw [exists_decodeUop_eq_round_iff, and_opMask_eq_iff]
    rfl
  case value => rw [decodeUop_eq_round_iff, ← BitVec.toNat_inj, roundWord_toNat]

end Sys2Proof
end

section
/-! Operands and tables of the encoding (30_encoding.md R53, R56 to R58, R63): the roles of a round, the places of the
microprogram, the addresses of the ROM, and the steps of a reserved command word. -/

namespace Sys2Proof.Machine

/-- A round writes its three results to the registers of the three roles (30_encoding.md R57). -/
theorem roundAt_roles (rom : Rom) (rot : Fin 3) (x mul : Word) (r : Vector Word 3) :
    let out := roundFn rom r[rot.val] r[(rot.val + 1) % 3] r[(rot.val + 2) % 3] x mul
    let r' := roundAt rom rot x mul r
    r'[rot.val] = out.1 ∧ r'[(rot.val + 1) % 3] = out.2.1 ∧ r'[(rot.val + 2) % 3] = out.2.2 := by
  match rot with
  | 0 => simp [roundAt_abc]
  | 1 => simp [roundAt_bca]
  | 2 => simp [roundAt_cab]

/-- The words at the places of pass `p` carry `msel = p` (30_encoding.md R56, R58). -/
theorem microWord_msel : ∀ p < 3, ∀ i < 8,
    (microWord (BitVec.ofNat 5 (2 + 9 * p + i))).map uopMsel = some (BitVec.ofNat 2 p) := by
  decide

/-- Settles O6: multipliers, their places in the microprogram, roles, and the reserved operand values. -/
theorem roundOperands : Obligations.RoundOperands := by
  unfold Obligations.RoundOperands
  exact ⟨by decide, mulOf_legal, fun p i hp hi => microWord_msel p hp i hi, by decide, roundAt_roles,
    fun u hop h => decodeUop_round_reserved ((and_opMask_eq_iff u).mp hop) h⟩

/-- Place `k + 1` of the sequencer issues entry `k` of the microprogram's list (30_encoding.md R58). -/
theorem microWord_succ {k : Nat} (hk : k < 28) : microWord (BitVec.ofNat 5 (k + 1)) = microprogram[k]? := by
  have hval : (BitVec.ofNat 5 (k + 1)).toNat = k + 1 :=
    (BitVec.toNat_ofNat ..).trans (Nat.mod_eq_of_lt (by omega))
  have hne : BitVec.ofNat 5 (k + 1) ≠ 0 := fun h => by simp [h] at hval
  rw [microWord, if_neg hne, hval, Nat.add_sub_cancel]

/-- The places 1 to 28 issue the words of the microprogram in order (30_encoding.md R58). -/
theorem map_microWord_places :
    ((List.range 28).map fun k => microWord (BitVec.ofNat 5 (k + 1))) = microprogram.map some := by
  refine List.ext_getElem rfl fun k hk _ => ?_
  have hk28 : k < 28 := by simpa using hk
  rw [List.getElem_map, List.getElem_map, List.getElem_range, microWord_succ hk28]
  exact List.getElem?_eq_getElem hk28

/-- Settles O7: the words of the places in order, then what the decoder makes of each word of the list. -/
theorem microprogramTable : Obligations.MicroprogramTable := by
  unfold Obligations.MicroprogramTable
  refine ⟨rfl, map_microWord_places, ?_⟩
  calc ((List.range 28).map fun k => (microWord (BitVec.ofNat 5 (k + 1))).bind fun u => accepted (decodeUop u))
    _ = ((List.range 28).map fun k => microWord (BitVec.ofNat 5 (k + 1))).map
        (·.bind fun u => accepted (decodeUop u)) := by rw [List.map_map]; rfl
    _ = microprogram.map fun u => accepted (decodeUop u) := by rw [map_microWord_places, List.map_map]; rfl
    _ = _ := by decide

/-- The ROM address as a number (30_encoding.md R63). -/
theorem romAddress_toNat (k : Table) (i : Byte) : (romAddress k i).toNat = 256 * (tableCode k).toNat + i.toNat := by
  rw [romAddress, BitVec.toNat_append, ← Nat.shiftLeft_add_eq_or_of_lt i.isLt, Nat.shiftLeft_eq, Nat.mul_comm]

theorem tableCode_surjective : Function.Surjective tableCode
  | 0 => ⟨.t1, rfl⟩
  | 1 => ⟨.t2, rfl⟩
  | 2 => ⟨.t3, rfl⟩
  | 3 => ⟨.t4, rfl⟩

/-- All 1024 addresses are populated: an address is its two table bits and its byte index (30_encoding.md R63). -/
theorem exists_romAddress_eq (addr : BitVec 10) : ∃ k i, romAddress k i = addr := by
  obtain ⟨k, hk⟩ := tableCode_surjective (addr.extractLsb' 8 2)
  have hsplit : addr.extractLsb' 8 2 ++ addr.extractLsb' 0 8 = addr :=
    (BitVec.extractLsb'_append_extractLsb'_eq_extractLsb' rfl).trans BitVec.extractLsb'_eq_self
  exact ⟨k, addr.extractLsb' 0 8, by rw [romAddress, hk, hsplit]⟩

/-- Settles O9: the address bits, every address, and the word read at the address of each table. -/
theorem romAddressing : Obligations.RomAddressing := by
  unfold Obligations.RomAddressing
  exact ⟨fun i => by simp [romAddress_toNat, tableCode], exists_romAddress_eq,
    fun rom i => ⟨sboxRead_t1 rom i, sboxRead_t2 rom i, sboxRead_t3 rom i, sboxRead_t4 rom i⟩⟩

/-- Settles O29: a reserved command word decodes to none and raises `ERR_CMD` while idle, `ERR_BUSY` while busy. -/
theorem reservedCommand : Obligations.ReservedCommand := by
  unfold Obligations.ReservedCommand
  refine fun v h0 h1 => ⟨decodeCmd_reserved h0 h1, fun s ts ht => ⟨fun hs => ?idle, fun hs hl => ?busy⟩⟩
  case idle =>
    calc step s
      _ = performWrite exec offCmd 8 v (s.setTurns ts) := step_write_idle hs ht (by decide)
      _ = .next (raiseErr .cmd (s.setTurns ts)) := by rw [performWrite_cmd, hostCommand_reserved _ h0 h1]
      _ = .next { s with turns := ts, errCmd := true } := rfl
  case busy => exact writeWhileBusyRefused s ts 0x58 8 v hs hl ht (by decide) (by decide)

end Sys2Proof.Machine
end

section
/-! The round mixer (41_round_mixer.md R80 to R83): the two mixed words by table, and the Round and ROUND effects. -/

namespace Sys2Proof.Machine

/-- The even bytes index T1, T2, T3, T4 in this order (41_round_mixer.md R82). -/
theorem evenMix_eq (rom : Rom) (c : Word) :
    evenMix rom c =
      rom.t1[(byteOf c 0).toNat]'(byteOf c 0).isLt ^^^ rom.t2[(byteOf c 2).toNat]'(byteOf c 2).isLt ^^^
        rom.t3[(byteOf c 4).toNat]'(byteOf c 4).isLt ^^^ rom.t4[(byteOf c 6).toNat]'(byteOf c 6).isLt := by
  rw [evenMix, sboxRead_t1, sboxRead_t2, sboxRead_t3, sboxRead_t4]

/-- The odd bytes index T4, T3, T2, T1 in this order (41_round_mixer.md R82). -/
theorem oddMix_eq (rom : Rom) (c : Word) :
    oddMix rom c =
      rom.t4[(byteOf c 1).toNat]'(byteOf c 1).isLt ^^^ rom.t3[(byteOf c 3).toNat]'(byteOf c 3).isLt ^^^
        rom.t2[(byteOf c 5).toNat]'(byteOf c 5).isLt ^^^ rom.t1[(byteOf c 7).toNat]'(byteOf c 7).isLt := by
  rw [oddMix, sboxRead_t4, sboxRead_t3, sboxRead_t2, sboxRead_t1]

/-- Wrapping subtraction as a number (00_scope.md R4, 41_round_mixer.md R85(a)). -/
theorem toNat_sub_word (v w : Word) : (v - w).toNat = (2 ^ 64 + v.toNat - w.toNat) % 2 ^ 64 := by
  rw [BitVec.toNat_sub, Nat.sub_add_comm w.isLt.le]

/-- Settles O11: the two mixed words are read off the tables, then each result is taken as a number. -/
theorem roundFunction : Obligations.RoundFunction := by
  unfold Obligations.RoundFunction
  intro rom a b c x mul n pick a' b' out
  have heven : evenMix rom n = a' := evenMix_eq rom n
  have hodd : oddMix rom n = b' := oddMix_eq rom n
  refine ⟨rfl, ?newA, ?newB⟩
  case newA =>
    calc out.1.toNat
      _ = (a - evenMix rom n).toNat := rfl
      _ = (2 ^ 64 + a.toNat - a'.toNat) % 2 ^ 64 := by rw [heven, toNat_sub_word]
  case newB =>
    calc out.2.1.toNat
      _ = ((b + oddMix rom n) * mul).toNat := rfl
      _ = (b.toNat + b'.toNat) % 2 ^ 64 * mul.toNat % 2 ^ 64 := by rw [hodd, BitVec.toNat_mul, BitVec.toNat_add]

/-- The roles of a round when the register of role a is given by a number (30_encoding.md R57). -/
theorem roundAt_ofNat_roles (rom : Rom) (n : Nat) (x mul : Word) (r : Vector Word 3) :
    let out := roundFn rom (r[n % 3]'(Nat.mod_lt _ (by decide))) (r[(n + 1) % 3]'(Nat.mod_lt _ (by decide)))
      (r[(n + 2) % 3]'(Nat.mod_lt _ (by decide))) x mul
    let r' := roundAt rom (Fin.ofNat 3 n) x mul r
    r'[n % 3]'(Nat.mod_lt _ (by decide)) = out.1 ∧ r'[(n + 1) % 3]'(Nat.mod_lt _ (by decide)) = out.2.1 ∧
      r'[(n + 2) % 3]'(Nat.mod_lt _ (by decide)) = out.2.2 := by
  have h := roundAt_roles rom (Fin.ofNat 3 n) x mul r
  simpa only [Fin.val_ofNat, Nat.mod_add_mod] using h

/-- Settles O21: the next state of a legal ROUND writes `R` by role and `SEQ` alone. -/
theorem roundEffect : Obligations.RoundEffect := by
  unfold Obligations.RoundEffect
  intro s rot widx msel hr hm ia ib ic out
  obtain ⟨ha, hb, hc⟩ := roundAt_ofNat_roles s.rom rot.toNat (workingWord s.x widx) (BitVec.ofNat 64 (2 * msel.toNat + 5)) s.r
  exact ⟨_, execRound_legal s rot widx msel hr hm, ha, hb, hc, rfl, rfl⟩

end Sys2Proof.Machine
end

section
/-! The Pass function (42_pass_sequencer.md R90, R91): a round whose role a is numbered `n` writes by the indices `n`, `n + 1`
and `n + 2` modulo 3, and Pass is eight such rounds. -/

namespace Sys2Proof.Machine

/-- One turn of R90's loop: the round number `n` on the three words, the roles taken modulo 3. -/
theorem roundAt_ofNat (rom : Rom) (n : Nat) (x mul : Word) (r : Vector Word 3) :
    roundAt rom (Fin.ofNat 3 n) x mul r =
      let out := roundFn rom (r[n % 3]'(Nat.mod_lt _ (by decide))) (r[(n + 1) % 3]'(Nat.mod_lt _ (by decide)))
        (r[(n + 2) % 3]'(Nat.mod_lt _ (by decide))) x mul
      ((r.set (n % 3) out.1 (Nat.mod_lt _ (by decide))).set ((n + 1) % 3) out.2.1 (Nat.mod_lt _ (by decide))).set
        ((n + 2) % 3) out.2.2 (Nat.mod_lt _ (by decide)) := by
  have hb : (Fin.ofNat 3 n + 1).val = (n + 1) % 3 := by simp [Fin.val_add]
  have hc : (Fin.ofNat 3 n + 2).val = (n + 2) % 3 := by simp [Fin.val_add]
  simp only [roundAt, Fin.getElem_fin, hb, hc, Fin.val_ofNat]

/-- A pass is the rounds 0 to 7 on its three words (42_pass_sequencer.md R90). -/
theorem passFn_eq_roundsFrom (rom : Rom) (p : Vector Word 3) (x : Vector Word 8) (mul : Word) :
    passFn rom p x mul = roundsFrom rom 0 x mul p := rfl

/-- Settles O13: the pass is a fold of rounds by number, each of which reads and writes its roles modulo 3. -/
theorem passFunction : Obligations.PassFunction := by
  unfold Obligations.PassFunction
  intro rom p x mul
  rw [passFn_eq_roundsFrom, roundsFrom]
  refine List.foldl_ext _ _ p fun q i _ => ?_
  rw [Nat.zero_add]
  exact roundAt_ofNat rom i x[i] mul q

end Sys2Proof.Machine
end

section
/-! Sequencing (42_pass_sequencer.md R95, R96): where the engine's turn and the host's turn take `SEQ`. -/

namespace Sys2Proof.Machine

/-- The update of `SEQ` by the micro-operation of its place: FOLD, at place 28, clears it and sets `DONE`; LOAD, ROUND and KSCHED
advance it (42_pass_sequencer.md R95). -/
theorem engineTurn_busy_control {s : State} (h0 : s.seq ≠ 0) (hl : s.seq.toNat ≤ 28) :
    ∃ t, engineTurn exec s = .next t ∧ t.turns = s.turns ∧
      ((s.seq ≠ 28 ∧ t.seq = s.seq + 1) ∨ (s.seq = 28 ∧ t.seq = 0 ∧ t.done = true)) := by
  obtain ⟨t, ht, hcase⟩ := engineTurn_busy h0 hl
  refine ⟨t, ht, ?_⟩
  rcases hcase with ⟨h1, rfl⟩ | ⟨-, hne, r, rfl⟩ | ⟨-, hne, rfl⟩ | ⟨h28, rfl⟩
  · exact ⟨rfl, .inl ⟨by rw [h1]; decide, rfl⟩⟩
  · exact ⟨rfl, .inl ⟨hne, rfl⟩⟩
  · exact ⟨rfl, .inl ⟨hne, rfl⟩⟩
  · exact ⟨rfl, .inr ⟨h28, rfl, rfl⟩⟩

section Step
variable {s t : State} {ts : List Turn}

/-- A step of the engine is its turn on the state with that turn removed. -/
theorem step_engine (hturn : (nextTurn s).1 = .engine) : step s = engineTurn exec (s.setTurns s.turns.tail) := by
  rw [step_eq_takeTurn, hturn, takeTurn]

/-- A busy engine's step always goes on (42_pass_sequencer.md R95). -/
theorem step_engine_busy (hturn : (nextTurn s).1 = .engine) (h0 : s.seq ≠ 0) (hl : s.seq.toNat ≤ 28) :
    ∃ t, step s = .next t ∧ t.turns = s.turns.tail ∧
      ((s.seq ≠ 28 ∧ t.seq = s.seq + 1) ∨ (s.seq = 28 ∧ t.seq = 0 ∧ t.done = true)) := by
  rw [step_engine hturn]
  exact engineTurn_busy_control (s := s.setTurns s.turns.tail) h0 hl

theorem step_engine_idle (hturn : (nextTurn s).1 = .engine) (hs : s.seq = 0) : step s = .next (s.setTurns s.turns.tail) := by
  rw [step_engine hturn]
  exact engineTurn_idle (s := s.setTurns s.turns.tail) hs

theorem nextTurn_nil (ht : s.turns = []) : (nextTurn s).1 = .engine := by
  rw [nextTurn, ht]

theorem nextTurn_cons {a : Turn} (ht : s.turns = a :: ts) : (nextTurn s).1 = a := by
  rw [nextTurn, ht]

/-- Of all accesses of the host while idle, START alone moves `SEQ` (42_pass_sequencer.md R96). -/
theorem hostAccess_idle_seq {a : Access} (hs : s.seq = 0) (h : hostAccess exec a s = .next t) :
    t.seq = 0 ∨ (t.seq = 1 ∧ a = .write 0x58 8 1) := by
  obtain ⟨t', ht', hcase⟩ := hostAccess_cases a s
  obtain rfl : t' = t := by simpa [ht'] using h
  have hraise (f : ErrCause) : (raiseErr f s).seq = 0 := (raiseErr_seq s f).trans hs
  rcases hcase with ⟨-, -, rfl | rfl⟩ | ⟨-, -, off, n, -, rfl⟩ | ⟨-, -, hne, -⟩ |
    ⟨-, -, -, rfl | rfl | ⟨rfl, ha⟩ | ⟨off, n, v, -, -, rfl⟩ | ⟨w, rfl⟩⟩
  · exact .inl ((State.reply_seq ..).trans (hraise .acc))
  · exact .inl (hraise .acc)
  · exact .inl ((State.reply_seq ..).trans hs)
  · exact absurd hs hne
  · exact .inl (hraise .cmd)
  · exact .inl hs
  · exact .inr ⟨rfl, ha⟩
  · exact .inl ((State.setBlk_seq ..).trans hs)
  · exact .inl ((State.setH_seq ..).trans hs)

end Step

/-- Settles O37: the engine's turn is the operation its place decodes to, and updates `SEQ` as that operation does. -/
theorem engineSequencing : Obligations.EngineSequencing := by
  unfold Obligations.EngineSequencing
  intro s hturn h0 hl
  obtain ⟨t, ht, -, hseq⟩ := step_engine_busy hturn h0 hl
  obtain ⟨u, i, hu, hi, -⟩ := microWord_decodes s.seq h0 hl
  refine ⟨t, u, i, ht, hu, hi, ?operation, ?update⟩
  case operation =>
    rw [step_engine hturn, nextTurn_state]
    exact engineTurn_of_word (s := s.setTurns s.turns.tail) hu hi
  case update =>
    rcases hseq with ⟨hne, hseq⟩ | ⟨h28, hseq, -⟩
    · rw [if_neg hne, hseq]
    · rw [if_pos h28, hseq]

/-- Settles O38: an idle engine's turn and a reset leave `SEQ = 0`, and so does every host access but START. -/
theorem onlyStartLeavesIdle : Obligations.OnlyStartLeavesIdle := by
  unfold Obligations.OnlyStartLeavesIdle
  intro s t hs hstep hne
  have not_engine : (nextTurn s).1 ≠ .engine := by
    intro hturn
    rw [step_engine_idle hturn hs] at hstep
    cases hstep
    exact hne hs
  cases hts : s.turns with
  | nil => exact absurd (nextTurn_nil hts) not_engine
  | cons a ts =>
    cases a with
    | engine => exact absurd (nextTurn_cons hts) not_engine
    | reset =>
      rw [step_cons hts] at hstep
      cases hstep
      exact absurd rfl hne
    | host a =>
      rw [step_host (by simp [hs]) hts] at hstep
      rcases hostAccess_idle_seq (s := s.setTurns ts) hs hstep with h0 | ⟨h1, rfl⟩
      · exact absurd h0 hne
      · exact ⟨h1, ts, rfl⟩

end Sys2Proof.Machine
end

section
/-! Every compression finishes (42_pass_sequencer.md R100): while busy each engine turn advances `SEQ` by one and each host turn
leaves it, so `SEQ` counts the engine's turns up to place 28, where FOLD ends the compression. -/

namespace Sys2Proof.Machine

section Busy
variable {s t : State} {ts rest : List Turn}

/-- One step more at the end of a run. -/
theorem runSteps_snoc {u : State} {k : Nat} (h : runSteps k s = .next t) (hu : step t = .next u) :
    runSteps (k + 1) s = .next u := by
  rw [runSteps_add 1 h, runSteps_succ hu, runSteps_zero]

theorem seq_ne_zero_of_toNat_pos {q : BitVec 5} (h : 0 < q.toNat) : q ≠ 0 := (BitVec.ne_of_lt h).symm

/-- Before place 28 the engine's step counts `SEQ` up by one. -/
theorem step_engine_advances (hturn : (nextTurn s).1 = .engine) (h0 : s.seq ≠ 0) (hl : s.seq.toNat < 28) :
    ∃ t, step s = .next t ∧ t.seq.toNat = s.seq.toNat + 1 ∧ t.turns = s.turns.tail := by
  have hne : s.seq ≠ 28 := fun h => by simp [h] at hl
  obtain ⟨t, ht, hturns, ⟨-, hseq⟩ | ⟨h28, -, -⟩⟩ := step_engine_busy hturn h0 hl.le
  · exact ⟨t, ht, by rw [hseq, seq_succ_toNat _ hl.le], hturns⟩
  · exact absurd h28 hne

/-- At place 28 the engine's step ends the compression. -/
theorem step_engine_finishes (hturn : (nextTurn s).1 = .engine) (hl : s.seq.toNat = 28) :
    ∃ t, step s = .next t ∧ t.seq = 0 ∧ t.done = true ∧ t.turns = s.turns.tail := by
  have h28 : s.seq = 28 := BitVec.eq_of_toNat_eq hl
  obtain ⟨t, ht, hturns, ⟨hne, -⟩ | ⟨-, hseq, hdone⟩⟩ :=
    step_engine_busy hturn (seq_ne_zero_of_toNat_pos (by omega)) hl.le
  · exact absurd h28 hne
  · exact ⟨t, ht, hseq, hdone, hturns⟩

/-- While busy a host access leaves `SEQ` (20_memory.md R38). -/
theorem step_host_busy {a : Access} (h0 : s.seq ≠ 0) (hl : s.seq.toNat ≤ 28) (ht : s.turns = .host a :: ts) :
    ∃ t, step s = .next t ∧ t.seq = s.seq ∧ t.turns = ts := by
  obtain ⟨t, ht', -, -, -, -, hseq, -, -, -, -, -, hturns, -⟩ := hostAccess_busy a (s.setTurns ts) h0
  exact ⟨t, by rw [step_host hl ht, ht'], hseq, hturns⟩

/-- One turn while busy, before the compression ends: `SEQ` counts it when it is the engine's. -/
theorem step_while_busy {a : Turn} (h0 : s.seq ≠ 0) (ht : s.turns = a :: ts) (ha : a ≠ .reset)
    (hc : s.seq.toNat + [a].count .engine ≤ 28) :
    ∃ t, step s = .next t ∧ t.seq.toNat = s.seq.toNat + [a].count .engine ∧ t.turns = ts := by
  cases a with
  | engine =>
    obtain ⟨t, hstep, hseq, hturns⟩ := step_engine_advances (nextTurn_cons ht) h0 hc
    exact ⟨t, hstep, hseq, by rw [hturns, ht, List.tail_cons]⟩
  | host a =>
    obtain ⟨t, hstep, hseq, hturns⟩ := step_host_busy h0 hc ht
    exact ⟨t, hstep, congrArg BitVec.toNat hseq, hturns⟩
  | reset => exact absurd rfl ha

/-- While a compression lasts, `SEQ` counts the engine's turns, however the host's turns interleave. -/
theorem runSteps_while_busy (h0 : s.seq ≠ 0) (ht : s.turns = ts ++ rest) (hr : Turn.reset ∉ ts)
    (hc : s.seq.toNat + ts.count .engine ≤ 28) :
    ∃ t, runSteps ts.length s = .next t ∧ t.seq.toNat = s.seq.toNat + ts.count .engine ∧ t.turns = rest := by
  induction ts generalizing s with
  | nil => exact ⟨s, runSteps_zero s, rfl, ht⟩
  | cons a as ih =>
    have hcount : (a :: as).count .engine = [a].count .engine + as.count .engine := List.count_append (l₁ := [a])
    obtain ⟨hne, hr⟩ : Turn.reset ≠ a ∧ Turn.reset ∉ as := by simpa using hr
    have hpos := BitVec.toNat_pos_of_ne_zero h0
    obtain ⟨u, hu, huseq, huturns⟩ := step_while_busy h0 ht hne.symm (by omega)
    obtain ⟨t, hrun, hseq, hturns⟩ := ih (seq_ne_zero_of_toNat_pos (by omega)) huturns hr (by omega)
    exact ⟨t, by rw [List.length_cons, runSteps_succ hu, hrun], by omega, hturns⟩

/-- With no turns placed every step is the engine's and `SEQ` counts it. -/
theorem runSteps_alone {k : Nat} (h0 : s.seq ≠ 0) (ht : s.turns = []) (hk : s.seq.toNat + k ≤ 28) :
    ∃ t, runSteps k s = .next t ∧ t.seq.toNat = s.seq.toNat + k ∧ t.turns = [] := by
  induction k with
  | zero => exact ⟨s, runSteps_zero s, rfl, ht⟩
  | succ k ih =>
    have hpos := BitVec.toNat_pos_of_ne_zero h0
    obtain ⟨u, hrun, huseq, huturns⟩ := ih (by omega)
    obtain ⟨t, hstep, hseq, hturns⟩ :=
      step_engine_advances (nextTurn_nil huturns) (seq_ne_zero_of_toNat_pos (by omega)) (by omega)
    exact ⟨t, runSteps_snoc hrun hstep, by omega, by rw [hturns, huturns, List.tail_nil]⟩

end Busy

/-- Settles O42: the count of the engine's turns brings `SEQ` to place 28, and the engine's next turn ends the compression. -/
theorem everyCompressionFinishes : Obligations.EveryCompressionFinishes := by
  unfold Obligations.EveryCompressionFinishes
  refine ⟨fun s ts rest h0 hl ht hr hc => ?midway, fun s ts rest h0 hl ht hr hc => ?last, fun s h0 hl ht => ?alone⟩
  case midway => exact runSteps_while_busy h0 ht hr (by omega)
  case last =>
    obtain ⟨u, hrun, huseq, huturns⟩ := runSteps_while_busy h0 ht hr (by omega)
    obtain ⟨t, hstep, hseq, hdone, hturns⟩ := step_engine_finishes (nextTurn_cons huturns) (by omega)
    exact ⟨t, runSteps_snoc hrun hstep, hseq, hdone, by rw [hturns, huturns, List.tail_cons]⟩
  case alone =>
    obtain ⟨u, hrun, huseq, huturns⟩ := runSteps_alone (k := 28 - s.seq.toNat) h0 ht (by omega)
    obtain ⟨t, hstep, hseq, hdone, -⟩ := step_engine_finishes (nextTurn_nil huturns) (by omega)
    rw [Nat.succ_sub hl]
    exact ⟨t, runSteps_snoc hrun hstep, hseq, hdone⟩

end Sys2Proof.Machine
end

section
/-! The key schedule (43_key_schedule.md R105, R109): its sixteen assignments, and the effect and the places of KSCHED. -/

namespace Sys2Proof.Machine

/-- Settles O15: the words bound by the two halves `ksFirst` (K1 to K8) and `ksSecond` (K9 to K16), `notShl`, `notShr` and the two
constants written out, are the sixteen assignments, so the two sides agree by definition. -/
theorem keyScheduleAssignments : Obligations.KeyScheduleAssignments := by
  unfold Obligations.KeyScheduleAssignments
  intro x0 x1 x2 x3 x4 x5 x6 x7
  rfl

/-- KSCHED in every state: `X` and `SEQ` alone change (43_key_schedule.md R109). -/
theorem exec_ksched (s : State) : exec .ksched s = .next { s with x := keySchedule s.x, seq := s.seq + 1 } := rfl

/-- A place issues a well-formed micro-operation exactly when it holds that operation's word. -/
theorem issues_iff_microWord {i : Instr} {w : BitVec 9} (hwf : i.wf = true) (hw : encode i = .uop w) (q : BitVec 5) :
    (∃ u, microWord q = some u ∧ decodeUop u = .ok i) ↔ microWord q = some w := by
  simp only [decodeUop_eq_ok_iff_eq_word hwf hw, exists_eq_right]

/-- The places of KSCHED's word in the microprogram (30_encoding.md R58). -/
theorem microWord_eq_ksched_iff : ∀ q : BitVec 5, microWord q = some 0x100 ↔ q = 10 ∨ q = 19 := by decide

/-- Settles O22: the effect is the operation's own, and the places are those that hold its one word `0x100`. -/
theorem kschedEffect : Obligations.KschedEffect := by
  unfold Obligations.KschedEffect
  exact ⟨exec_ksched, fun q => (issues_iff_microWord rfl rfl q).trans (microWord_eq_ksched_iff q)⟩

end Sys2Proof.Machine
end

section
/-! The compression engine (44_compress_engine.md R113 to R117): the block words and the state words a compression starts from, the
Compress function, and the effect and the places of LOAD and FOLD and of the two commands. -/

namespace Sys2Proof.Machine

/-- The eight block words as numbers (20_memory.md R33, 44_compress_engine.md R114). -/
theorem blockWords_toNat (blk : Vector Byte 64) (i : Fin 8) :
    (blockWords blk)[i].toNat = ∑ k : Fin 8, (blk[8 * i.val + k.val]'(by omega)).toNat * 2 ^ (8 * k.val) := by
  have hword : (blockWords blk)[i] = blockWord blk i := by simp [blockWords]
  rw [hword, blockWord_toNat]

/-- The sums of R33 determine the eight words. -/
theorem eq_blockWords_of_toNat {x : Vector Word 8} {blk : Vector Byte 64}
    (hx : ∀ i : Fin 8, x[i].toNat = ∑ k : Fin 8, (blk[8 * i.val + k.val]'(by omega)).toNat * 2 ^ (8 * k.val)) :
    x = blockWords blk := by
  ext i hi : 1
  exact BitVec.eq_of_toNat_eq ((hx ⟨i, hi⟩).trans (blockWords_toNat blk ⟨i, hi⟩).symm)

/-- The three words passed one by one to the first pass are the state words themselves (42_pass_sequencer.md R93). -/
theorem mk_getElem_three (h : Vector Word 3) : #v[h[0], h[1], h[2]] = h := by
  ext i hi : 1
  match i, hi with
  | 0, _ | 1, _ | 2, _ => rfl

/-- Settles O17: the given words are the block words and the state words, and the rest is Compress step by step. -/
theorem compressFunction : Obligations.CompressFunction := by
  unfold Obligations.CompressFunction
  intro rom h p q t blk x x' x'' hx hp hx' hq hx'' ht
  rw [mk_getElem_three, eq_blockWords_of_toNat hx] at hp
  rw [eq_blockWords_of_toNat hx] at hx'
  subst hp hx' hq hx'' ht
  rfl

/-- LOAD in every state: `X`, `R` and `SEQ` alone change (44_compress_engine.md R114). -/
theorem exec_load (s : State) : exec .load s = .next { s with x := blockWords s.blk, r := s.h, seq := s.seq + 1 } := rfl

/-- FOLD in every state: `H`, `DONE` and `SEQ` alone change (44_compress_engine.md R115). -/
theorem exec_fold (s : State) : exec .fold s =
    .next { s with h := feedForward s.h s.r[0] s.r[1] s.r[2], done := true, seq := 0 } := rfl

/-- The place of LOAD's word in the microprogram (30_encoding.md R58). -/
theorem microWord_eq_load_iff : ∀ q : BitVec 5, microWord q = some 0x000 ↔ q = 1 := by decide

/-- The place of FOLD's word in the microprogram (30_encoding.md R58). -/
theorem microWord_eq_fold_iff : ∀ q : BitVec 5, microWord q = some 0x180 ↔ q = 28 := by decide

/-- Settles O20: the block words are the sums of R33, the rest is the operation's own effect, and the one place is that of the
word `0x000`. -/
theorem loadEffect : Obligations.LoadEffect := by
  unfold Obligations.LoadEffect
  refine ⟨fun s => ⟨_, exec_load s, ?words, rfl, rfl, rfl⟩, fun q => ?place⟩
  case words => exact blockWords_toNat s.blk
  case place => exact (issues_iff_microWord rfl rfl q).trans (microWord_eq_load_iff q)

/-- Settles O23: the feed-forward word by word, its difference and its sum taken as numbers; the one place is that of the word
`0x180`. -/
theorem foldEffect : Obligations.FoldEffect := by
  unfold Obligations.FoldEffect
  refine ⟨fun s => ⟨_, exec_fold s, rfl, ?difference, ?sum, rfl, rfl, rfl⟩, fun q => ?place⟩
  case difference => exact toNat_sub_word s.r[1] s.h[1]
  case sum => exact BitVec.toNat_add s.r[2] s.h[2]
  case place => exact (issues_iff_microWord rfl rfl q).trans (microWord_eq_fold_iff q)

/-- Settles O18: the idle and the busy case of the command. -/
theorem nopEffect : Obligations.NopEffect := by
  unfold Obligations.NopEffect
  exact fun _ => ⟨execNop_idle, execNop_busy⟩

/-- Settles O19: the idle and the busy case of the command. -/
theorem startEffect : Obligations.StartEffect := by
  unfold Obligations.StartEffect
  exact fun _ => ⟨execStart_idle, execStart_busy⟩

end Sys2Proof.Machine
end

section
/-! Exceptions (60_exceptions.md): what each access raises, and who raises, keeps and clears an error flag. -/

namespace Sys2Proof.Machine

/-! The flag of a cause under the updates of the state: a write to another register keeps it and a reset clears it. -/

section Flag
variable (s : State) (f : ErrCause)

@[simp] theorem State.setH_flag (v : Vector Word 3) : (s.setH v).flag f = s.flag f := by cases f <;> rfl
@[simp] theorem State.setBlk_flag (v : Vector Byte 64) : (s.setBlk v).flag f = s.flag f := by cases f <;> rfl
@[simp] theorem State.setX_flag (v : Vector Word 8) : (s.setX v).flag f = s.flag f := by cases f <;> rfl
@[simp] theorem State.setR_flag (v : Vector Word 3) : (s.setR v).flag f = s.flag f := by cases f <;> rfl
@[simp] theorem State.setSeq_flag (v : BitVec 5) : (s.setSeq v).flag f = s.flag f := by cases f <;> rfl
@[simp] theorem State.setDone_flag (v : Bool) : (s.setDone v).flag f = s.flag f := by cases f <;> rfl
@[simp] theorem State.setTurns_flag (v : List Turn) : (s.setTurns v).flag f = s.flag f := by cases f <;> rfl
@[simp] theorem State.reply_flag (v : Word) : (s.reply v).flag f = s.flag f := by cases f <;> rfl
@[simp] theorem advanceSeq_flag : (advanceSeq s).flag f = s.flag f := by cases f <;> rfl
@[simp] theorem resetEvent_flag : (resetEvent s).flag f = false := by cases f <;> rfl

/-- `STATUS` shows the flag of a cause at bit 8 plus its code (60_exceptions.md R131). -/
theorem statusWord_getLsbD_code : (statusWord s).getLsbD (8 + f.code) = s.flag f := by
  rw [statusWord_getLsbD]
  cases f with
  | busy => simp [ErrCause.code, State.flag]
  | cmd => simp [ErrCause.code, State.flag]
  | acc => simp [ErrCause.code, State.flag]

end Flag

/-! Who changes an error flag (60_exceptions.md R131, R137). -/

section Turns
variable {s t : State}

theorem engineTurn_flag (h : engineTurn exec s = .next t) (f : ErrCause) : t.flag f = s.flag f := by
  rcases engineTurn_inv h with ⟨-, rfl⟩ | ⟨-, -, ⟨-, rfl⟩ | ⟨-, -, r, rfl⟩ | ⟨-, -, rfl⟩ | ⟨-, rfl⟩⟩
  · rfl
  · simp
  · simp
  · simp
  · simp

/-- A host access raises one flag or none (60_exceptions.md R136). -/
theorem hostAccess_flags {a : Access} (h : hostAccess exec a s = .next t) :
    (∀ f, t.flag f = s.flag f) ∨ ∃ g, ∀ f, t.flag f = (raiseErr g s).flag f := by
  obtain ⟨t', ht', hcase⟩ := hostAccess_cases a s
  obtain rfl : t' = t := by simpa [ht'] using h
  rcases hcase with ⟨-, -, rfl | rfl⟩ | ⟨-, -, off, n, -, rfl⟩ | ⟨-, -, -, rfl⟩ |
    ⟨-, -, -, rfl | rfl | ⟨rfl, -⟩ | ⟨off, n, v, -, -, rfl⟩ | ⟨w, rfl⟩⟩
  · exact .inr ⟨.acc, fun f => State.reply_flag _ f _⟩
  · exact .inr ⟨.acc, fun _ => rfl⟩
  · exact .inl fun f => State.reply_flag _ f _
  · exact .inr ⟨.busy, fun _ => rfl⟩
  · exact .inr ⟨.cmd, fun _ => rfl⟩
  · exact .inl fun _ => rfl
  · exact .inl fun f => by simp
  · exact .inl fun f => State.setBlk_flag _ f _
  · exact .inl fun f => State.setH_flag _ f _

theorem hostAccess_keeps_flag {a : Access} {f : ErrCause} (h : hostAccess exec a s = .next t) (hf : s.flag f = true) :
    t.flag f = true := by
  rcases hostAccess_flags h with hsame | ⟨g, hraise⟩
  · rw [hsame, hf]
  · rw [hraise, raiseErr_flag, hf, Bool.true_or]

/-- An engine turn changes no flag. -/
theorem step_engine_flag (hturn : (nextTurn s).1 = .engine) (h : step s = .next t) (f : ErrCause) : t.flag f = s.flag f := by
  rw [step_engine hturn] at h
  rw [engineTurn_flag h, State.setTurns_flag]

/-- A host turn keeps every set flag. -/
theorem step_host_keeps_flag {a : Access} {f : ErrCause} (hturn : (nextTurn s).1 = .host a) (h : step s = .next t)
    (hf : s.flag f = true) : t.flag f = true := by
  rw [step_eq_takeTurn, hturn] at h
  obtain ⟨-, hacc⟩ := hostTurn_inv h
  exact hostAccess_keeps_flag hacc ((State.setTurns_flag ..).trans hf)

/-- A reset clears every flag. -/
theorem step_reset_flag (hturn : (nextTurn s).1 = .reset) (h : step s = .next t) (f : ErrCause) : t.flag f = false := by
  rw [step_eq_takeTurn, hturn] at h
  cases h
  exact resetEvent_flag _ f

end Turns

/-- A write is a bad access when it is not well-formed or lies at `STATUS` or above (20_memory.md R34). -/
theorem writable_eq_false_iff_le (off n : Nat) : writable off n = false ↔ wellFormed off n = false ∨ 0x60 ≤ off := by
  rw [writable, Bool.and_eq_false_iff, decide_eq_false_iff_not, not_lt, offStatus]

/-- A micro-operation with legal operands completes, whatever the registers hold, and leaves the error flags
(60_exceptions.md R130). -/
theorem exec_microOperation_completes (s : State) {i : Instr} (hwf : i.wf = true) (hnop : i ≠ .nop) (hstart : i ≠ .start) :
    ∃ t, exec i s = .next t ∧ t.errBusy = s.errBusy ∧ t.errCmd = s.errCmd ∧ t.errAcc = s.errAcc := by
  cases i with
  | nop => exact absurd rfl hnop
  | start => exact absurd rfl hstart
  | load => exact ⟨_, exec_load s, rfl, rfl, rfl⟩
  | round rot widx msel =>
    obtain ⟨hrot, hmsel⟩ := (Instr.wf_round_iff rot widx msel).mp hwf
    exact ⟨_, execRound_legal s rot widx msel hrot hmsel, rfl, rfl, rfl⟩
  | ksched => exact ⟨_, exec_ksched s, rfl, rfl, rfl⟩
  | fold => exact ⟨_, exec_fold s, rfl, rfl, rfl⟩

/-- Settles O30: the decision on a write, condition by condition, and on a read. -/
theorem errorPriority : Obligations.ErrorPriority := by
  unfold Obligations.ErrorPriority
  refine fun s ts hl => ⟨fun off n v ht => ?write, fun off n ht => ?read⟩
  case write =>
    cases hw : writable off n with
    | false =>
      rw [if_pos ((writable_eq_false_iff_le off n).mp hw)]
      exact (badAccessEffect s ts hl).2 off n v ht ((writable_eq_false_iff off n).mp hw)
    | true =>
      have hgood : ¬(wellFormed off n = false ∨ 0x60 ≤ off) := by
        rw [← writable_eq_false_iff_le, hw]
        exact Bool.noConfusion
      rw [if_neg hgood]
      split_ifs with hs hcmd
      · obtain ⟨hwf, hoff⟩ := (writable_iff off n).mp hw
        exact writeWhileBusyRefused s ts off n v hs hl ht hwf hoff
      · obtain ⟨rfl, h0, h1⟩ := hcmd
        rw [step_write_idle (not_not.mp hs) ht hw]
        exact hostCommand_reserved (s.setTurns ts) h0 h1
      · exact step_write_idle (not_not.mp hs) ht hw
  case read =>
    cases hw : wellFormed off n with
    | false =>
      rw [if_pos rfl]
      exact (badAccessEffect s ts hl).1 off n ht hw
    | true =>
      rw [if_neg Bool.noConfusion]
      exact step_read_wellFormed hl ht hw

/-- Settles O32: the codes and the `STATUS` bits cause by cause; an engine turn changes no flag and a reset raises none, so a flag
rises in a host turn. -/
theorem errorCauses : Obligations.ErrorCauses := by
  unfold Obligations.ErrorCauses
  refine ⟨⟨rfl, rfl, rfl⟩, statusWord_getLsbD_code, fun s f => ?raise, fun s t f hturn h => step_engine_flag hturn h f,
    fun s t f h hclear hset => ?rise⟩
  case raise => cases f <;> rfl
  case rise =>
    cases hturn : (nextTurn s).1 with
    | engine =>
      rw [step_engine_flag hturn h, hclear] at hset
      exact absurd hset Bool.false_ne_true
    | host a => exact ⟨a, rfl⟩
    | reset =>
      rw [step_reset_flag hturn h] at hset
      exact absurd hset Bool.false_ne_true

/-- Settles O34: an engine turn changes no flag, a host turn keeps every set one, and a reset clears all three. -/
theorem errorFlagsSticky : Obligations.ErrorFlagsSticky := by
  unfold Obligations.ErrorFlagsSticky
  refine ⟨fun s t f hturn h hf => ?kept, fun s t f hturn h => step_reset_flag hturn h f⟩
  cases hagent : (nextTurn s).1 with
  | engine => rw [step_engine_flag hagent h, hf]
  | host a => exact step_host_keeps_flag hagent h hf
  | reset => exact absurd hagent hturn

/-- Settles O40: the four micro-operations complete; the engine's turn goes on at a legal `SEQ` and is refused at an illegal
one. -/
theorem microOperationsNeverFail : Obligations.MicroOperationsNeverFail := by
  unfold Obligations.MicroOperationsNeverFail
  have legal (s : State) (hl : s.seq.toNat ≤ 28) : ∃ t, engineTurn exec s = .next t := takeTurn_total .engine s hl
  refine ⟨fun s i => exec_microOperation_completes s, legal, fun s => ?_⟩
  by_cases hl : s.seq.toNat ≤ 28
  · exact .inl (legal s hl)
  · exact .inr ⟨_, engineTurn_illegal (not_le.mp hl)⟩

end Sys2Proof.Machine
end

section
/-! The Reset event (70_reset_and_hazards.md section 1). -/

namespace Sys2Proof.Machine

/-- A reset turn goes on in every state, an illegal `SEQ` included (70_reset_and_hazards.md R150). -/
theorem step_reset {s : State} {ts : List Turn} (ht : s.turns = .reset :: ts) :
    step s = .next (resetEvent (s.setTurns ts)) := by
  rw [step_cons ht, takeTurn]

/-- Settles O50: the reset turn is `resetEvent`, which clears the control registers and keeps the ROM. -/
theorem resetEventEffect : Obligations.ResetEventEffect := by
  unfold Obligations.ResetEventEffect
  intro s ts ht
  refine ⟨_, step_reset ht, resetEvent_seq _, resetEvent_done _, resetEvent_errBusy _, resetEvent_errCmd _,
    resetEvent_errAcc _, ?rom⟩
  case rom => rw [resetEvent_rom, State.setTurns_rom]

end Sys2Proof.Machine
end

section
/-! Decode and encode agree in both directions (30_encoding.md sections 2 and 3), over both encoded spaces. -/

namespace Sys2Proof

theorem Instr.wf_of_encode_cmd {i : Instr} {v : Word} (h : encode i = .cmd v) : i.wf = true := by
  cases i with
  | nop | start => rfl
  | load | round | ksched | fold => cases h

/-- A word decodes to an operation exactly when the operation is well-formed and has that word. -/
theorem decode_eq_ok_iff (c : Code) (i : Instr) : decode c = .ok i ↔ i.wf = true ∧ encode i = c := by
  cases c with
  | cmd v =>
    rw [decode, decodeCmd_eq_ok_iff]
    exact ⟨fun h => ⟨Instr.wf_of_encode_cmd h, h⟩, fun ⟨_, h⟩ => h⟩
  | uop u => rw [decode, decodeUop_eq_ok_iff]

/-- Settles O3: both directions are read off one equivalence, the first at the operation's own word. -/
theorem decodeEncodeAgree : Obligations.DecodeEncodeAgree := by
  unfold Obligations.DecodeEncodeAgree
  exact ⟨fun i hwf => (decode_eq_ok_iff _ i).mpr ⟨hwf, rfl⟩, fun c i => (decode_eq_ok_iff c i).mp⟩

end Sys2Proof
end

section
/-! Rules of every step (10_state.md): the invariant (R20), the existence of a successor, who writes which register (R10 to R14,
R23), and the ROM that nobody writes (R19). Each is read off what the engine's turn, a host access and a reset can do. -/

namespace Sys2Proof.Machine

section Turns
variable {s t : State}

/-! What an access of the host leaves, and what it can do to control. -/

/-- No access of the host writes `X`, `R` or the ROM (10_state.md R12, R13, R19). -/
theorem hostAccess_frame {a : Access} (h : hostAccess exec a s = .next t) : t.x = s.x ∧ t.r = s.r ∧ t.rom = s.rom := by
  obtain ⟨t', ht', hcase⟩ := hostAccess_cases a s
  obtain rfl : t' = t := by simpa [ht'] using h
  rcases hcase with ⟨-, -, rfl | rfl⟩ | ⟨-, -, off, n, -, rfl⟩ | ⟨-, -, -, rfl⟩ |
    ⟨-, -, -, rfl | rfl | ⟨rfl, -⟩ | ⟨off, n, v, -, -, rfl⟩ | ⟨w, rfl⟩⟩ <;> simp

/-- An access of the host leaves `SEQ` and `DONE`, unless it is a START that is accepted (10_state.md R14, R15). -/
theorem hostAccess_control {a : Access} (h : hostAccess exec a s = .next t) :
    (t.seq = s.seq ∧ t.done = s.done) ∨ (s.seq = 0 ∧ t.seq = 1 ∧ t.done = false) := by
  obtain ⟨t', ht', hcase⟩ := hostAccess_cases a s
  obtain rfl : t' = t := by simpa [ht'] using h
  rcases hcase with ⟨-, -, rfl | rfl⟩ | ⟨-, -, off, n, -, rfl⟩ | ⟨-, -, -, rfl⟩ |
    ⟨-, -, hs, rfl | rfl | ⟨rfl, -⟩ | ⟨off, n, v, -, -, rfl⟩ | ⟨w, rfl⟩⟩
  case inr.inr.inr.inr.inr.inl => exact .inr ⟨hs, rfl, rfl⟩
  all_goals exact .inl (by simp)

/-- While busy no access of the host writes `H` or `BLK` (20_memory.md R38). -/
theorem hostAccess_busy_data {a : Access} (h0 : s.seq ≠ 0) (h : hostAccess exec a s = .next t) :
    t.h = s.h ∧ t.blk = s.blk := by
  obtain ⟨t', ht', hh, hblk, -⟩ := hostAccess_busy a s h0
  obtain rfl : t' = t := by simpa [ht'] using h
  exact ⟨hh, hblk⟩

/-- The engine's turn writes neither `BLK` nor the ROM, and `H` at place 28 only (10_state.md R10, R11, R19). -/
theorem engineTurn_frame (h : engineTurn exec s = .next t) :
    t.blk = s.blk ∧ t.rom = s.rom ∧ (t.h = s.h ∨ s.seq = 28) := by
  rcases engineTurn_inv h with ⟨-, rfl⟩ | ⟨-, -, ⟨-, rfl⟩ | ⟨-, -, r, rfl⟩ | ⟨-, -, rfl⟩ | ⟨h28, rfl⟩⟩
  · exact ⟨rfl, rfl, .inl rfl⟩
  · exact ⟨rfl, rfl, .inl rfl⟩
  · exact ⟨rfl, rfl, .inl rfl⟩
  · exact ⟨rfl, rfl, .inl rfl⟩
  · exact ⟨rfl, rfl, .inr h28⟩

/-! The invariant (10_state.md R20). -/

/-- The invariant speaks of `SEQ` and `DONE` alone. -/
theorem State.Inv.congr (hs : s.Inv) (hseq : t.seq = s.seq) (hdone : t.done = s.done) : t.Inv := by
  simpa only [State.Inv, State.busy, hseq, hdone] using hs

theorem State.inv_of_not_done (hl : t.seq.toNat ≤ 28) (hd : t.done = false) : t.Inv :=
  ⟨hl, fun ⟨_, hdone⟩ => Bool.false_ne_true (hd.symm.trans hdone)⟩

theorem State.inv_of_idle (h0 : t.seq = 0) : t.Inv :=
  ⟨by simp [h0], fun ⟨hbusy, _⟩ => (busy_iff t).mp hbusy h0⟩

/-- A busy state that meets the invariant is not done. -/
theorem State.Inv.not_done (hs : s.Inv) (h0 : s.seq ≠ 0) : s.done = false := by
  obtain ⟨-, hexcl⟩ := hs
  exact Bool.eq_false_iff.mpr fun hdone => hexcl ⟨(busy_iff s).mpr h0, hdone⟩

theorem engineTurn_done (h : engineTurn exec s = .next t) : t.done = s.done ∨ t.seq = 0 := by
  rcases engineTurn_inv h with ⟨-, rfl⟩ | ⟨-, -, ⟨-, rfl⟩ | ⟨-, -, r, rfl⟩ | ⟨-, -, rfl⟩ | ⟨-, rfl⟩⟩
  · exact .inl rfl
  · exact .inl rfl
  · exact .inl rfl
  · exact .inl rfl
  · exact .inr rfl

/-- A busy engine moves on to a place that exists, or to idle. -/
theorem engineTurn_keeps_inv (hs : s.Inv) (h : engineTurn exec s = .next t) : t.Inv := by
  by_cases h0 : s.seq = 0
  · rw [engineTurn_idle h0] at h
    cases h
    exact hs
  have hl : s.seq.toNat ≤ 28 := hs.1
  obtain ⟨t', ht', -, hcase⟩ := engineTurn_busy_control h0 hl
  obtain rfl : t' = t := by simpa [ht'] using h
  rcases hcase with ⟨hne, hseq⟩ | ⟨-, hseq, -⟩
  · have hlt : s.seq.toNat ≠ 28 := fun h28 => hne (BitVec.eq_of_toNat_eq h28)
    have hnext : t'.seq.toNat = s.seq.toNat + 1 := by rw [hseq, seq_succ_toNat _ hl]
    rcases engineTurn_done h with hdone | hidle
    · exact State.inv_of_not_done (by omega) (hdone.trans (hs.not_done h0))
    · exact State.inv_of_idle hidle
  · exact State.inv_of_idle hseq

theorem hostAccess_keeps_inv {a : Access} (hs : s.Inv) (h : hostAccess exec a s = .next t) : t.Inv := by
  rcases hostAccess_control h with ⟨hseq, hdone⟩ | ⟨-, hseq, hdone⟩
  · exact hs.congr hseq hdone
  · exact State.inv_of_not_done (by simp [hseq]) hdone

theorem takeTurn_keeps_inv {a : Turn} (hs : s.Inv) (h : takeTurn exec a s = .next t) : t.Inv := by
  cases a with
  | engine => exact engineTurn_keeps_inv hs h
  | host a =>
    obtain ⟨-, hacc⟩ := hostTurn_inv h
    exact hostAccess_keeps_inv hs hacc
  | reset =>
    cases h
    exact State.inv_of_idle (resetEvent_seq s)

/-- A state with a legal `SEQ` has a successor, whoever has the turn. -/
theorem step_total (hl : s.seq.toNat ≤ 28) : ∃ t, step s = .next t := by
  rw [step_eq_takeTurn]
  exact takeTurn_total (nextTurn s).1 (s.setTurns s.turns.tail) hl

end Turns

/-- Settles O44: the invariant is kept turn by turn. -/
theorem everyStepKeepsInvariant : Obligations.EveryStepKeepsInvariant := by
  unfold Obligations.EveryStepKeepsInvariant
  intro s t hs h
  rw [step_eq_takeTurn] at h
  exact takeTurn_keeps_inv (s := s.setTurns s.turns.tail) hs h

/-- Settles O45: the reset state is idle. -/
theorem resetMeetsInvariant : Obligations.ResetMeetsInvariant := by
  unfold Obligations.ResetMeetsInvariant
  exact State.inv_of_idle rfl

/-- Settles O46: the invariant holds `SEQ` to its legal values, where every turn goes on. -/
theorem everyGoodStateHasSuccessor : Obligations.EveryGoodStateHasSuccessor := by
  unfold Obligations.EveryGoodStateHasSuccessor
  rintro s ⟨hl, -⟩
  exact step_total hl

/-- Settles O47: the frames of the engine's turn and of the host's access, agent by agent. -/
theorem registerOwnership : Obligations.RegisterOwnership := by
  unfold Obligations.RegisterOwnership
  intro s t hturn h
  rw [step_eq_takeTurn] at h
  cases hagent : (nextTurn s).1 with
  | engine =>
    rw [hagent] at h
    obtain ⟨hblk, -, hh⟩ := engineTurn_frame h
    exact ⟨fun _ => ⟨hblk, hh.imp_right fun h28 => ⟨rfl, h28⟩⟩, fun hne => absurd rfl hne, fun _ => hblk⟩
  | host a =>
    rw [hagent] at h
    obtain ⟨-, hacc⟩ := hostTurn_inv h
    obtain ⟨hx, hr, -⟩ := hostAccess_frame hacc
    refine ⟨fun h0 => ?busy, fun _ => ⟨hx, hr, ?seq⟩, fun heng => nomatch heng⟩
    case busy =>
      obtain ⟨hh, hblk⟩ := hostAccess_busy_data (s := s.setTurns s.turns.tail) h0 hacc
      exact ⟨hblk, .inl hh⟩
    case seq => exact (hostAccess_control hacc).imp (fun ⟨hseq, _⟩ => hseq) fun ⟨h0, hseq, _⟩ => ⟨h0, hseq⟩
  | reset => exact absurd hagent hturn

/-- Settles O48: no turn writes the ROM. -/
theorem romNeverWritten : Obligations.RomNeverWritten := by
  unfold Obligations.RomNeverWritten
  intro s t h
  rw [step_eq_takeTurn] at h
  cases hagent : (nextTurn s).1 with
  | engine =>
    rw [hagent] at h
    obtain ⟨-, hrom, -⟩ := engineTurn_frame h
    exact hrom
  | host a =>
    rw [hagent] at h
    obtain ⟨-, hacc⟩ := hostTurn_inv h
    obtain ⟨-, -, hrom⟩ := hostAccess_frame hacc
    exact hrom
  | reset =>
    rw [hagent] at h
    cases h
    rfl

end Sys2Proof.Machine
end

section
/-! Non-interference: a raised error flag does not reach the engine (60_exceptions.md R135), and the `X` and `R` of an idle engine do
not reach the host (10_state.md R12, R13). -/

namespace Sys2Proof.Machine

section Flag
variable {s t : State} (f : ErrCause)

/-- An operation carries a raised flag along and does the same in all else (10_state.md R16). -/
theorem exec_raiseErr {i : Instr} (h : exec i s = .next t) : exec i (raiseErr f s) = .next (raiseErr f t) := by
  have hseq : (raiseErr f s).seq = s.seq := raiseErr_seq s f
  cases i with
  | nop =>
    rw [exec] at h ⊢
    by_cases h0 : s.seq = 0
    · rw [execNop_idle h0] at h
      cases h
      exact execNop_idle (hseq.trans h0)
    · rw [execNop_busy h0] at h
      cases h
      rw [execNop_busy (hseq ▸ h0)]
      cases f <;> rfl
  | start =>
    rw [exec] at h ⊢
    by_cases h0 : s.seq = 0
    · rw [execStart_idle h0] at h
      cases h
      rw [execStart_idle (hseq.trans h0)]
      cases f <;> rfl
    · rw [execStart_busy h0] at h
      cases h
      rw [execStart_busy (hseq ▸ h0)]
      cases f <;> rfl
  | round rot widx msel =>
    rw [exec] at h ⊢
    by_cases hres : rot = 3 ∨ msel = 3
    · rw [execRound_reserved s _ _ _ hres] at h
      cases h
    · obtain ⟨hr, hm⟩ := not_or.mp hres
      rw [execRound_legal s _ _ _ hr hm] at h
      cases h
      rw [execRound_legal _ _ _ _ hr hm]
      cases f <;> rfl
  | load | ksched | fold =>
    cases h
    cases f <;> rfl

theorem engineTurn_raiseErr (h : engineTurn exec s = .next t) :
    engineTurn exec (raiseErr f s) = .next (raiseErr f t) := by
  have hseq : (raiseErr f s).seq = s.seq := raiseErr_seq s f
  rcases engineTurn_inv h with ⟨h0, rfl⟩ | ⟨h0, hl, -⟩
  · exact engineTurn_idle (hseq.trans h0)
  · obtain ⟨u, i, hu, hi, -⟩ := microWord_decodes s.seq h0 hl
    rw [engineTurn_of_word hu hi] at h
    rw [engineTurn_of_word (hseq ▸ hu) hi]
    exact exec_raiseErr f h

end Flag

/-- Settles O33: the engine picks its micro-operation by `SEQ` alone, and every operation carries a raised flag along. -/
theorem errorDoesNotDisturbEngine : Obligations.ErrorDoesNotDisturbEngine := by
  unfold Obligations.ErrorDoesNotDisturbEngine
  exact fun s t f h => engineTurn_raiseErr f h

/-! Other values in `X` and `R`, seen by the host: nothing. -/

/-- `s` with `x` and `r` in the hidden data registers. -/
def State.withHidden (s : State) (x : Vector Word 8) (r : Vector Word 3) : State := (s.setX x).setR r

/-- States that look the same differ in the hidden registers alone. -/
theorem State.SameVisible.eq_withHidden {s s' : State} (h : s.SameVisible s') : s' = s.withHidden s'.x s'.r := by
  obtain ⟨hh, hblk, hseq, hdone, hbusy, hcmd, hacc, hrom, hturns, hreplies, hdraws⟩ := h
  exact State.ext_fields hh.symm hblk.symm rfl rfl hseq.symm hdone.symm hbusy.symm hcmd.symm hacc.symm hrom.symm hturns.symm
    hreplies.symm hdraws.symm

theorem State.sameVisible_withHidden (s : State) (x : Vector Word 8) (r : Vector Word 3) : s.SameVisible (s.withHidden x r) :=
  ⟨rfl, rfl, rfl, rfl, rfl, rfl, rfl, rfl, rfl, rfl, rfl⟩

section Hidden
variable {s s' t : State} (x : Vector Word 8) (r : Vector Word 3)

theorem hostCommand_withHidden {v : Word} (h : hostCommand exec v s = .next t) (h0 : s.seq = 0) :
    hostCommand exec v (s.withHidden x r) = .next (t.withHidden x r) := by
  have h0' : (s.withHidden x r).seq = 0 := h0
  by_cases hv0 : v = 0
  · subst hv0
    rw [hostCommand_nop h0] at h
    cases h
    exact hostCommand_nop h0'
  by_cases hv1 : v = 1
  · subst hv1
    rw [hostCommand_start h0] at h
    cases h
    exact hostCommand_start h0'
  · rw [hostCommand_reserved s hv0 hv1] at h
    cases h
    exact hostCommand_reserved _ hv0 hv1

theorem performWrite_withHidden {off n : Nat} {v : Word} (h : performWrite exec off n v s = .next t) (h0 : s.seq = 0) :
    performWrite exec off n v (s.withHidden x r) = .next (t.withHidden x r) := by
  unfold performWrite at h ⊢
  split_ifs at h ⊢
  · cases h; rfl
  · cases h; rfl
  · cases h; rfl
  · cases h; rfl
  · exact hostCommand_withHidden x r h h0

theorem hostWrite_withHidden {off n : Nat} {v : Word} (h : hostWrite exec off n v s = .next t) :
    hostWrite exec off n v (s.withHidden x r) = .next (t.withHidden x r) := by
  cases hw : writable off n with
  | false =>
    rw [hostWrite_bad hw] at h ⊢
    cases h
    rfl
  | true =>
    by_cases h0 : s.seq = 0
    · have h0' : (s.withHidden x r).seq = 0 := h0
      rw [hostWrite_idle hw v h0] at h
      rw [hostWrite_idle hw v h0']
      exact performWrite_withHidden x r h h0
    · have h0' : (s.withHidden x r).seq ≠ 0 := h0
      rw [hostWrite_busy hw v h0] at h
      rw [hostWrite_busy hw v h0']
      cases h
      rfl

theorem hostRead_withHidden {off n : Nat} (h : hostRead off n s = .next t) :
    hostRead off n (s.withHidden x r) = .next (t.withHidden x r) := by
  cases hw : wellFormed off n with
  | false =>
    rw [hostRead_bad hw] at h ⊢
    cases h
    rfl
  | true =>
    rw [hostRead_wellFormed hw] at h ⊢
    cases h
    rfl

/-- No access of the host reads `X` or `R` (20_memory.md R30). -/
theorem hostAccess_withHidden {a : Access} (h : hostAccess exec a s = .next t) :
    hostAccess exec a (s.withHidden x r) = .next (t.withHidden x r) := by
  cases a with
  | read off n => exact hostRead_withHidden x r h
  | write off n v => exact hostWrite_withHidden x r h

end Hidden

/-- The relation that a run from idle keeps: the states look the same, and differ in `X` and `R` only before LOAD has written
them (44_compress_engine.md R114). -/
def Indistinguishable (s s' : State) : Prop := s = s' ∨ s.SameVisible s' ∧ (s.seq = 0 ∨ s.seq = 1)

section Related
variable {s s' : State}

theorem Indistinguishable.sameVisible (h : Indistinguishable s s') : s.SameVisible s' := by
  rcases h with rfl | ⟨hv, -⟩
  · exact ⟨rfl, rfl, rfl, rfl, rfl, rfl, rfl, rfl, rfl, rfl, rfl⟩
  · exact hv

theorem Indistinguishable.setTurns (h : Indistinguishable s s') (ts : List Turn) :
    Indistinguishable (s.setTurns ts) (s'.setTurns ts) := by
  rcases h with rfl | ⟨⟨hh, hblk, hseq, hdone, hbusy, hcmd, hacc, hrom, -, hrest⟩, hplace⟩
  · exact .inl rfl
  · exact .inr ⟨⟨hh, hblk, hseq, hdone, hbusy, hcmd, hacc, hrom, rfl, hrest⟩, hplace⟩

/-- LOAD overwrites the two hidden registers from the visible ones. -/
theorem exec_load_withHidden (s : State) (x : Vector Word 8) (r : Vector Word 3) :
    exec .load (s.withHidden x r) = exec .load s := rfl

/-- At place 1 the engine runs LOAD. -/
theorem engineTurn_load (h1 : s.seq = 1) : engineTurn exec s = exec .load s :=
  engineTurn_of_word (u := 0x000) (by rw [h1]; decide) (by decide)

/-- The same turn on indistinguishable states: an idle engine leaves them, LOAD makes them equal, the host sees no difference
and a reset redraws the hidden registers. -/
theorem takeTurn_indistinguishable (h : Indistinguishable s s') (hl : s.seq.toNat ≤ 28) (a : Turn) :
    ∃ t t', takeTurn exec a s = .next t ∧ takeTurn exec a s' = .next t' ∧ Indistinguishable t t' := by
  obtain ⟨t, ht⟩ := takeTurn_total a s hl
  rcases h with rfl | ⟨hv, hplace⟩
  · exact ⟨t, t, ht, ht, .inl rfl⟩
  rw [hv.eq_withHidden]
  cases a with
  | engine =>
    rw [takeTurn] at ht
    rcases hplace with h0 | h1
    · rw [engineTurn_idle h0] at ht
      cases ht
      exact ⟨_, _, engineTurn_idle h0, engineTurn_idle h0, .inr ⟨State.sameVisible_withHidden .., .inl h0⟩⟩
    · have h1' : (s.withHidden s'.x s'.r).seq = 1 := h1
      refine ⟨t, t, ht, ?_, .inl rfl⟩
      rw [takeTurn, engineTurn_load h1', exec_load_withHidden, ← engineTurn_load h1, ht]
  | host a =>
    obtain ⟨-, hacc⟩ := hostTurn_inv ht
    have hl' : (s.withHidden s'.x s'.r).seq.toNat ≤ 28 := hl
    refine ⟨t, _, ht, (takeTurn_host hl').trans (hostAccess_withHidden _ _ hacc),
      .inr ⟨State.sameVisible_withHidden .., ?_⟩⟩
    rcases hostAccess_control hacc with ⟨hseq, -⟩ | ⟨-, hseq, -⟩
    · rwa [hseq]
    · exact .inr hseq
  | reset =>
    cases ht
    exact ⟨_, _, rfl, rfl, .inl rfl⟩

theorem step_indistinguishable (h : Indistinguishable s s') (hl : s.seq.toNat ≤ 28) :
    ∃ t t', step s = .next t ∧ step s' = .next t' ∧ Indistinguishable t t' := by
  have hturns : s.turns = s'.turns := by
    obtain ⟨-, -, -, -, -, -, -, -, hturns, -⟩ := h.sameVisible
    exact hturns
  rw [step_eq_takeTurn, step_eq_takeTurn, nextTurn_congr hturns, ← hturns]
  exact takeTurn_indistinguishable (h.setTurns s.turns.tail) hl _

theorem runSteps_indistinguishable (k : Nat) (h : Indistinguishable s s') (hs : s.Inv) :
    ∃ t t', runSteps k s = .next t ∧ runSteps k s' = .next t' ∧ Indistinguishable t t' := by
  induction k generalizing s s' with
  | zero => exact ⟨s, s', runSteps_zero s, runSteps_zero s', h⟩
  | succ k ih =>
    have hl : s.seq.toNat ≤ 28 := hs.1
    obtain ⟨u, u', hu, hu', hrel⟩ := step_indistinguishable h hl
    rw [runSteps_succ hu, runSteps_succ hu']
    exact ih hrel (everyStepKeepsInvariant s u hs hu)

end Related

/-- Settles O49: idle states that look the same are indistinguishable, and every step keeps them so. -/
theorem hiddenRegistersUnobservable : Obligations.HiddenRegistersUnobservable := by
  unfold Obligations.HiddenRegistersUnobservable
  intro s s' k h0 hv
  obtain ⟨t, t', ht, ht', hrel⟩ := runSteps_indistinguishable k (.inr ⟨hv, .inl h0⟩) (State.inv_of_idle h0)
  exact ⟨t, t', ht, ht', hrel.sameVisible⟩

end Sys2Proof.Machine
end

section
/-! Bijections of the pure functions: a round on the accumulators (41_round_mixer.md R84, R85) and the key schedule on the block
(43_key_schedule.md R110), each undone by a function written out. -/

namespace Sys2Proof.Machine

/-- The round undone: c first, then a and b from the c that the round left (41_round_mixer.md R84); `inv` undoes the
multiplication. -/
def unroundFn (rom : Rom) (x inv : Word) (p : Word × Word × Word) : Word × Word × Word :=
  (p.1 + evenMix rom p.2.2, p.2.1 * inv - oddMix rom p.2.2, p.2.2 ^^^ x)

section Round
variable (rom : Rom) (x : Word) {mul inv : Word} (hinv : mul * inv = 1)
include hinv

theorem unroundFn_roundFn (a b c : Word) : unroundFn rom x inv (roundFn rom a b c x mul) = (a, b, c) := by
  have hb (w : Word) : w * mul * inv = w := by rw [BitVec.mul_assoc, hinv, mul_one]
  simp [unroundFn, roundFn, hb]

/-- A round by a multiplier with an inverse loses nothing, and the triples of words are finitely many. -/
theorem roundFn_bijective :
    Function.Bijective fun p : Word × Word × Word => roundFn rom p.1 p.2.1 p.2.2 x mul :=
  Finite.injective_iff_bijective.mp <|
    Function.LeftInverse.injective (g := unroundFn rom x inv) fun (a, b, c) => unroundFn_roundFn rom x hinv a b c

end Round

/-- The three multipliers are odd, so each has an inverse modulo 2^64 (41_round_mixer.md R85). -/
theorem exists_inverse_of_multiplier {mul : Word} (h : mul = 5 ∨ mul = 7 ∨ mul = 9) : ∃ inv, mul * inv = 1 := by
  rcases h with rfl | rfl | rfl
  · exact ⟨0xCCCCCCCCCCCCCCCD, by decide⟩
  · exact ⟨0x6DB6DB6DB6DB6DB7, by decide⟩
  · exact ⟨0x8E38E38E38E38E39, by decide⟩

/-- Settles O12: the three multipliers have inverses, and with one `unroundFn` undoes the round. -/
theorem roundIsBijective : Obligations.RoundIsBijective := by
  unfold Obligations.RoundIsBijective
  intro rom x mul hmul
  obtain ⟨inv, hinv⟩ := exists_inverse_of_multiplier hmul
  exact roundFn_bijective rom x hinv

/-- K8 to K1 undone, the last first (43_key_schedule.md R105): each word is restored from its new value and words that are known by
then. -/
def unksFirst (y : Vector Word 8) : Vector Word 8 :=
  let x7 := y[7] ^^^ y[6]
  #v[y[0] + (x7 ^^^ ksC0), y[1] ^^^ y[0], y[2] - y[1], y[3] + (y[2] ^^^ notShl y[1]), y[4] ^^^ y[3], y[5] - y[4],
    y[6] + (y[5] ^^^ notShr y[4]), x7]

/-- K16 to K9 undone, the last first (43_key_schedule.md R105). -/
def unksSecond (y : Vector Word 8) : Vector Word 8 :=
  let x7 := y[7] + (y[6] ^^^ ksC1)
  #v[y[0] - x7, y[1] + (y[0] ^^^ notShl x7), y[2] ^^^ y[1], y[3] - y[2], y[4] + (y[3] ^^^ notShr y[2]), y[5] ^^^ y[4],
    y[6] - y[5], x7]

theorem ksFirst_bijective : Function.Bijective ksFirst := by
  refine Function.bijective_iff_has_inverse.mpr ⟨unksFirst, fun x => ?left, fun y => ?right⟩
  case left | right =>
    ext i hi : 1
    interval_cases i <;> simp [ksFirst, unksFirst]

theorem ksSecond_bijective : Function.Bijective ksSecond := by
  refine Function.bijective_iff_has_inverse.mpr ⟨unksSecond, fun x => ?left, fun y => ?right⟩
  case left | right =>
    ext i hi : 1
    interval_cases i <;> simp [ksSecond, unksSecond]

/-- Settles O16: each half of the key schedule rewrites every word once, from words that stay known, so each is a bijection. -/
theorem keyScheduleIsBijective : Obligations.KeyScheduleIsBijective := by
  unfold Obligations.KeyScheduleIsBijective
  exact ksSecond_bijective.comp ksFirst_bijective

end Sys2Proof.Machine
end

section
/-! One rotation across the passes (42_pass_sequencer.md R93, R94): a round on the registers in the role order of round `g` is the
round `g` further on the registers themselves. -/

namespace Sys2Proof.Machine

theorem rolesAt_getElem_mod (g i : Nat) (r : Vector Word 3) :
    (rolesAt g r)[i % 3]'(Nat.mod_lt _ (by decide)) = r[(g + i) % 3]'(Nat.mod_lt _ (by decide)) := by
  rcases (by omega : i % 3 = 0 ∨ i % 3 = 1 ∨ i % 3 = 2) with h | h | h
  · simp [rolesAt, h, Nat.add_mod g i]
  · simp [rolesAt, h, Nat.add_mod g i]
  · simp [rolesAt, h, Nat.add_mod g i]

/-- Three registers are equal when those of the three roles of round `i` are. -/
theorem vector_eq_of_roles {p q : Vector Word 3} (i : Nat)
    (h : ∀ k < 3, p[(i + k) % 3]'(Nat.mod_lt _ (by decide)) = q[(i + k) % 3]'(Nat.mod_lt _ (by decide))) : p = q := by
  ext j hj : 1
  have hj' : (i + (j + 2 * i) % 3) % 3 = j := by omega
  simpa only [hj'] using h ((j + 2 * i) % 3) (Nat.mod_lt _ (by decide))

theorem roundAt_rolesAt (rom : Rom) (g i : Nat) (x mul : Word) (r : Vector Word 3) :
    roundAt rom (Fin.ofNat 3 i) x mul (rolesAt g r) = rolesAt g (roundAt rom (Fin.ofNat 3 (g + i)) x mul r) := by
  have hl := roundAt_ofNat_roles rom i x mul (rolesAt g r)
  have hr := roundAt_ofNat_roles rom (g + i) x mul r
  simp only [rolesAt_getElem_mod, ← add_assoc] at hl hr
  obtain ⟨hla, hlb, hlc⟩ := hl
  obtain ⟨hra, hrb, hrc⟩ := hr
  refine vector_eq_of_roles i fun k hk => ?_
  rw [rolesAt_getElem_mod]
  match k, hk with
  | 0, _ => exact hla.trans hra.symm
  | 1, _ => exact hlb.trans hrb.symm
  | 2, _ => exact hlc.trans hrc.symm

/-- Settles O14: the role order is carried through the eight rounds one by one. -/
theorem oneRotationAcrossPasses : Obligations.OneRotationAcrossPasses := by
  unfold Obligations.OneRotationAcrossPasses
  intro rom g x mul r
  rw [passFn_eq_roundsFrom, roundsFrom, roundsFrom]
  refine List.foldl_hom (rolesAt g) fun q i => ?_
  rw [Nat.zero_add]
  exact roundAt_rolesAt rom g i x[i] mul q

end Sys2Proof.Machine
end

section
/-! The block buffer read back (20_memory.md sections 4 and 5). -/

namespace Sys2Proof.Machine

/-- The low `n` bytes of a word, byte by byte (20_memory.md R36). -/
theorem byteOf_lowBytes (v : Word) (n : Nat) {k : Nat} (hk : k < 8) :
    byteOf (BitVec.ofNat 64 (v.toNat % 2 ^ (8 * n))) k = if k < n then byteOf v k else 0 := by
  refine BitVec.eq_of_getLsbD_eq fun j hj => ?_
  have hbit : (BitVec.ofNat 64 (v.toNat % 2 ^ (8 * n))).getLsbD (8 * k + j) =
      (decide (8 * k + j < 8 * n) && v.getLsbD (8 * k + j)) := by
    rw [BitVec.getLsbD_ofNat, Nat.testBit_mod_two_pow, decide_eq_true (by omega : 8 * k + j < 64), Bool.true_and]
    rfl
  rw [byteOf_getLsbD, hbit]
  by_cases hkn : k < n
  · rw [if_pos hkn, byteOf_getLsbD, decide_eq_true (by omega : 8 * k + j < 8 * n), Bool.true_and]
  · rw [if_neg hkn, decide_eq_false (by omega : ¬ 8 * k + j < 8 * n), Bool.false_and, Bool.and_false]
    exact BitVec.getLsbD_zero.symm

/-- The block bytes just stored are the low bytes of the value (20_memory.md R32, R36, R37). -/
theorem blockValue_storeBytes_same (blk : Vector Byte 64) (v : Word) {off n : Nat} (hin : off + n ≤ 64) :
    blockValue (storeBytes blk off n v) off n = BitVec.ofNat 64 (v.toNat % 2 ^ (8 * n)) := by
  refine word_eq_of_bytes fun k hk => ?_
  rw [byteOf_blockValue _ _ _ _ hk, byteOf_lowBytes v n hk]
  by_cases hkn : k < n
  · rw [if_pos hkn, if_pos hkn, byteAt_storeBytes _ _ _ _ _ (by omega), if_pos (by omega), Nat.add_sub_cancel_left]
  · rw [if_neg hkn, if_neg hkn]

/-- Settles O35: the write stores its bytes, and the read that follows answers them. -/
theorem readBackAfterWrite : Obligations.ReadBackAfterWrite := by
  unfold Obligations.ReadBackAfterWrite
  intro s t ts off n v h0 hoff hw ht hrun
  have hwritable : writable off n = true := (writable_iff off n).mpr ⟨hw, by omega⟩
  have hwrite := step_write_idle h0 ht hwritable
  rw [performWrite_block exec n v _ hoff, State.setTurns_blk] at hwrite
  have hread := step_read_wellFormed (s := (s.setTurns (.host (.read off n) :: ts)).setBlk (storeBytes s.blk off n v))
    (by simp [h0]) rfl hw
  rw [readValue_block hoff] at hread
  rw [runSteps_succ hwrite, runSteps_succ hread, runSteps_zero] at hrun
  obtain ⟨-, hin⟩ := wellFormed_inside_block hw hoff
  rw [← Host.Outcome.next.inj hrun, State.reply_replies, State.setBlk_blk, blockValue_storeBytes_same _ _ hin,
    State.setTurns_replies, State.setBlk_replies, State.setTurns_replies]

end Sys2Proof.Machine
end

section
/-! The microprogram and the reserved micro-operations (30_encoding.md sections 2 and 3). -/

namespace Sys2Proof.Machine

/-- Settles O4: each word is evaluated by the decoder. -/
theorem wordsOfTheSpecDecode : Obligations.WordsOfTheSpecDecode := by
  unfold Obligations.WordsOfTheSpecDecode
  decide

/-- The words at the places of pass `p` (30_encoding.md R59), place by place. -/
theorem microWord_round : ∀ p < 3, ∀ i < 8, microWord (BitVec.ofNat 5 (2 + 9 * p + i)) =
    some (roundWord (BitVec.ofNat 2 ((8 * p + i) % 3)) (BitVec.ofNat 3 i) (BitVec.ofNat 2 p)) := by
  decide

/-- Settles O8: the 24 places one by one. -/
theorem microprogramClosedForm : Obligations.MicroprogramClosedForm := by
  unfold Obligations.MicroprogramClosedForm
  exact fun p i hp hi => microWord_round p hp i hi

theorem accepted_isSome_iff {r : Except Reject Instr} : (accepted r).isSome = true ↔ ∃ i, r = .ok i := by
  cases r with
  | ok i => exact ⟨fun _ => ⟨i, rfl⟩, fun _ => rfl⟩
  | error e => exact ⟨(nomatch ·), fun ⟨_, h⟩ => (nomatch h)⟩

/-- Settles O5: the two counts and the words of the microprogram by evaluation, the refusal by the rule of ROUND. -/
theorem reservedMicroOperations : Obligations.ReservedMicroOperations := by
  unfold Obligations.ReservedMicroOperations
  refine ⟨by decide +kernel, by decide +kernel, fun u hu => ?defined, by decide +kernel, fun rot widx msel s h => ?refused⟩
  case defined =>
    have hall : ∀ u ∈ microprogram, (accepted (decodeUop u)).isSome = true := by decide
    exact accepted_isSome_iff.mp (hall u hu)
  case refused => exact execRound_reserved s rot widx msel h

/-- Settles O51: the power-on state, field by field. -/
theorem resetState : Obligations.ResetState := by
  unfold Obligations.ResetState
  obtain ⟨-, -, -, hstatus⟩ := statusBits
  exact ⟨rfl, rfl, ⟨rfl, rfl, rfl⟩, hstatus, rfl, rfl⟩

end Sys2Proof.Machine
end

section
/-! What a step runs (42_pass_sequencer.md R95, R97, 30_encoding.md R51, R52). -/

namespace Sys2Proof.Machine

/-- A command written while busy raises `ERR_BUSY`, as the command's own meaning says (44_compress_engine.md R116, R117). -/
theorem exec_command_busy {v : Word} {i : Instr} (hv : decodeCmd v = .ok i) {s : State} (hs : s.seq ≠ 0) :
    exec i s = .next (raiseErr .busy s) := by
  rw [decodeCmd_eq_ok_iff] at hv
  cases i with
  | nop => exact execNop_busy hs
  | start => exact execStart_busy hs
  | load | round | ksched | fold => cases hv

/-- Settles O36: the engine runs the word of its place, and an accepted command runs, or while busy is refused as its own meaning
says. -/
theorem stepRunsDecodedOperation : Obligations.StepRunsDecodedOperation := by
  unfold Obligations.StepRunsDecodedOperation
  refine ⟨fun s u i ht hu hi => ?alone, fun s ts u i ht hu hi => ?placed, fun s ts v i hl ht hv => ?command⟩
  case alone => rw [step_nil ht, engineTurn_of_word hu hi]
  case placed =>
    rw [step_cons ht]
    exact engineTurn_of_word (s := s.setTurns ts) hu hi
  case command =>
    by_cases h0 : s.seq = 0
    · calc step s
        _ = performWrite exec offCmd 8 v (s.setTurns ts) := step_write_idle h0 ht (by decide)
        _ = exec i (s.setTurns ts) := by rw [performWrite_cmd, hostCommand, hv]
    · rw [writeWhileBusyRefused s ts 0x58 8 v h0 hl ht (by decide) (by decide)]
      exact (exec_command_busy (s := s.setTurns ts) hv h0).symm

/-- Settles O39: the stutter of an idle engine takes the turn and no more. -/
theorem idleEngineHasNoStep : Obligations.IdleEngineHasNoStep := by
  unfold Obligations.IdleEngineHasNoStep
  exact fun s h0 hturn => step_engine_idle hturn h0

end Sys2Proof.Machine
end

section
/-! The machine computes Compress (44_compress_engine.md R118). The registers of a compression are given in closed form, by pass and
round; the engine's turns move from one place to the next, host turns change nothing but flags and replies, and the last place
holds what Compress folds into `H`. -/

namespace Sys2Proof.Machine

/-! The values of a compression by place (42_pass_sequencer.md R94, 44_compress_engine.md R113). -/

/-- The working words of pass `p`: the block words after `p` key schedules. -/
def passWords (blk : Vector Byte 64) : Nat → Vector Word 8
  | 0 => blockWords blk
  | p + 1 => keySchedule (passWords blk p)

/-- The multiplier of pass `p`: 5, 7, 9 (30_encoding.md R56). -/
def passMul (p : Nat) : Word := BitVec.ofNat 64 (2 * p + 5)

/-- The first rounds of a pass whose first round is number `g` of the block, on the registers themselves. -/
def roundsUpTo (rom : Rom) (g : Nat) (x : Vector Word 8) (mul : Word) (r : Vector Word 3) : Nat → Vector Word 3
  | 0 => r
  | i + 1 => roundAt rom (Fin.ofNat 3 (g + i)) (workingWord x (BitVec.ofNat 3 i)) mul (roundsUpTo rom g x mul r i)

/-- The registers before pass `p`, in a compression of `h` and `blk`. -/
def passRegisters (rom : Rom) (h : Vector Word 3) (blk : Vector Byte 64) : Nat → Vector Word 3
  | 0 => h
  | p + 1 => roundsFrom rom (8 * p) (passWords blk p) (passMul p) (passRegisters rom h blk p)

theorem roundsUpTo_eight (rom : Rom) (g : Nat) (x : Vector Word 8) (mul : Word) (r : Vector Word 3) :
    roundsUpTo rom g x mul r 8 = roundsFrom rom g x mul r := rfl

/-- The call site permutes the roles as eight rounds of the rotation do (42_pass_sequencer.md R93, R94). -/
theorem rolesAt_call (g : Nat) (r : Vector Word 3) :
    #v[(rolesAt g r)[2], (rolesAt g r)[0], (rolesAt g r)[1]] = rolesAt (g + 8) r := by
  have h0 : (g + 8) % 3 = (g + 2) % 3 := by omega
  have h1 : (g + 8 + 1) % 3 = g % 3 := by omega
  have h2 : (g + 8 + 2) % 3 = (g + 1) % 3 := by omega
  simp [rolesAt, h0, h1, h2]

theorem rolesAt_zero (r : Vector Word 3) : rolesAt 0 r = r := mk_getElem_three r

/-- The feed-forward takes the words by name: the roles of round 16 are (B, C, A) (44_compress_engine.md R113). -/
theorem feedForward_rolesAt_sixteen (h r : Vector Word 3) :
    feedForward h (rolesAt 16 r)[2] (rolesAt 16 r)[0] (rolesAt 16 r)[1] = feedForward h r[0] r[1] r[2] := rfl

/-- Compress by the results of its three passes (44_compress_engine.md R113). -/
theorem compress_of_passes {rom : Rom} {h p q t : Vector Word 3} {blk : Vector Byte 64}
    (hp : passFn rom h (passWords blk 0) 5 = p) (hq : passFn rom #v[p[2], p[0], p[1]] (passWords blk 1) 7 = q)
    (ht : passFn rom #v[q[2], q[0], q[1]] (passWords blk 2) 9 = t) :
    compress rom h blk = feedForward h t[2] t[0] t[1] := by
  subst hp hq ht
  rfl

/-- Compress folds the registers that the 24 rounds of the one rotation leave (42_pass_sequencer.md R94). -/
theorem compress_eq_feedForward (rom : Rom) (h : Vector Word 3) (blk : Vector Byte 64) :
    compress rom h blk = feedForward h (passRegisters rom h blk 3)[0] (passRegisters rom h blk 3)[1]
      (passRegisters rom h blk 3)[2] := by
  have pass (p : Nat) {g : Nat} {mul : Word} (hg : g = 8 * p) (hmul : mul = passMul p) :
      passFn rom (rolesAt g (passRegisters rom h blk p)) (passWords blk p) mul =
        rolesAt g (passRegisters rom h blk (p + 1)) := by
    rw [hg, hmul, oneRotationAcrossPasses, passRegisters]
  have first := pass 0 (g := 0) (mul := 5) rfl rfl
  have second := pass 1 (g := 0 + 8) (mul := 7) rfl rfl
  have third := pass 2 (g := 0 + 8 + 8) (mul := 9) rfl rfl
  rw [rolesAt_zero, passRegisters] at first
  rw [← rolesAt_call] at second third
  rw [compress_of_passes first second third]
  exact feedForward_rolesAt_sixteen h _

/-! The engine's turn at each place of the microprogram (30_encoding.md R58, R59). -/

theorem place_toNat {p i : Nat} (hp : p < 3) (hi : i ≤ 8) : (BitVec.ofNat 5 (2 + 9 * p + i)).toNat = 2 + 9 * p + i := by
  rw [BitVec.toNat_ofNat]
  omega

/-- At the place of round `i` of pass `p` the engine runs round number `8p + i` of the rotation. -/
theorem engineTurn_round {s : State} {p i : Nat} (hp : p < 3) (hi : i < 8) (hs : s.seq = BitVec.ofNat 5 (2 + 9 * p + i)) :
    engineTurn exec s = .next (advanceSeq (s.setR
      (roundAt s.rom (Fin.ofNat 3 (8 * p + i)) (workingWord s.x (BitVec.ofNat 3 i)) (passMul p) s.r))) := by
  have hrot : (BitVec.ofNat 2 ((8 * p + i) % 3)).toNat = (8 * p + i) % 3 := by
    rw [BitVec.toNat_ofNat]
    omega
  have hmsel : (BitVec.ofNat 2 p).toNat = p := by
    rw [BitVec.toNat_ofNat]
    omega
  have hrot3 : BitVec.ofNat 2 ((8 * p + i) % 3) ≠ 3 := fun h => by
    have : (8 * p + i) % 3 = 3 := hrot.symm.trans (congrArg BitVec.toNat h)
    omega
  have hmsel3 : BitVec.ofNat 2 p ≠ 3 := fun h => by
    have : p = 3 := hmsel.symm.trans (congrArg BitVec.toNat h)
    omega
  have hword := hs ▸ microWord_round p hp i hi
  have hmod : Fin.ofNat 3 ((8 * p + i) % 3) = Fin.ofNat 3 (8 * p + i) := Fin.ext (Nat.mod_mod _ 3)
  rw [engineTurn_of_word hword (decodeUop_roundWord _ hrot3 hmsel3), exec, execRound_legal _ _ _ _ hrot3 hmsel3, hrot, hmsel,
    hmod, passMul]

/-- At the places 10 and 19, between the passes, the engine runs KSCHED. -/
theorem engineTurn_ksched {s : State} {p : Nat} (hp : p < 2) (hs : s.seq = BitVec.ofNat 5 (2 + 9 * p + 8)) :
    engineTurn exec s = exec .ksched s := by
  have hword : ∀ p < 2, microWord (BitVec.ofNat 5 (2 + 9 * p + 8)) = some 0x100 := by decide
  exact engineTurn_of_word (hs ▸ hword p hp) rfl

/-- At the place 28 the engine runs FOLD. -/
theorem engineTurn_fold {s : State} (hs : s.seq = 28) : engineTurn exec s = exec .fold s :=
  engineTurn_of_word (hs ▸ (microWord_eq_fold_iff 28).mpr rfl) rfl

/-! A state within a compression of `h` and `blk`. -/

/-- `X`, `R` and `SEQ` before round `i` of pass `p`, or after its last round for `i = 8`. -/
structure AtRound (rom : Rom) (h : Vector Word 3) (blk : Vector Byte 64) (p i : Nat) (s : State) : Prop where
  pass_lt : p < 3
  round_le : i ≤ 8
  seq_eq : s.seq = BitVec.ofNat 5 (2 + 9 * p + i)
  x_eq : s.x = passWords blk p
  r_eq : s.r = roundsUpTo rom (8 * p) (passWords blk p) (passMul p) (passRegisters rom h blk p) i

/-- A state after START and before FOLD: the inputs are untouched, and the engine is before LOAD or at a place of the passes. -/
structure Compressing (rom : Rom) (h : Vector Word 3) (blk : Vector Byte 64) (s : State) : Prop where
  h_eq : s.h = h
  blk_eq : s.blk = blk
  rom_eq : s.rom = rom
  place : s.seq = 1 ∨ ∃ p i, AtRound rom h blk p i s

section Engine
variable {rom : Rom} {h : Vector Word 3} {blk : Vector Byte 64} {s t : State}

theorem Compressing.seq_ne_zero (hc : Compressing rom h blk s) : s.seq ≠ 0 := by
  rcases hc.place with h1 | ⟨p, i, hat⟩
  · rw [h1]
    decide
  · refine seq_ne_zero_of_toNat_pos ?_
    rw [hat.seq_eq, place_toNat hat.pass_lt hat.round_le]
    omega

theorem Compressing.setTurns (hc : Compressing rom h blk s) (ts : List Turn) : Compressing rom h blk (s.setTurns ts) :=
  ⟨hc.h_eq, hc.blk_eq, hc.rom_eq, hc.place.imp_right fun ⟨p, i, hat⟩ =>
    ⟨p, i, hat.pass_lt, hat.round_le, hat.seq_eq, hat.x_eq, hat.r_eq⟩⟩

/-- LOAD leads to the first round of the first pass. -/
theorem Compressing.after_load (hc : Compressing rom h blk s) (h1 : s.seq = 1) :
    ∃ t, engineTurn exec s = .next t ∧ Compressing rom h blk t := by
  refine ⟨_, (engineTurn_load h1).trans (exec_load s), hc.h_eq, hc.blk_eq, hc.rom_eq,
    .inr ⟨0, 0, by decide, by decide, ?seq, ?words, hc.h_eq⟩⟩
  case seq => exact congrArg (· + 1) h1
  case words => exact congrArg blockWords hc.blk_eq

/-- A round leads to the next round of its pass, or past the last one. -/
theorem Compressing.after_round {p i : Nat} (hc : Compressing rom h blk s) (hat : AtRound rom h blk p i s) (hi : i < 8) :
    ∃ t, engineTurn exec s = .next t ∧ Compressing rom h blk t := by
  refine ⟨_, engineTurn_round hat.pass_lt hi hat.seq_eq, hc.h_eq, hc.blk_eq, hc.rom_eq,
    .inr ⟨p, i + 1, hat.pass_lt, hi, ?seq, hat.x_eq, ?registers⟩⟩
  case seq =>
    rw [advanceSeq_seq, State.setR_seq, hat.seq_eq, ← add_assoc (2 + 9 * p), BitVec.ofNat_add _ 1]
    rfl
  case registers => rw [advanceSeq_r, State.setR_r, hc.rom_eq, hat.x_eq, hat.r_eq, roundsUpTo]

/-- KSCHED leads to the first round of the next pass. -/
theorem Compressing.after_ksched {p : Nat} (hc : Compressing rom h blk s) (hat : AtRound rom h blk p 8 s) (hp : p < 2) :
    ∃ t, engineTurn exec s = .next t ∧ Compressing rom h blk t := by
  refine ⟨_, (engineTurn_ksched hp hat.seq_eq).trans (exec_ksched s), hc.h_eq, hc.blk_eq, hc.rom_eq,
    .inr ⟨p + 1, 0, by omega, by decide, ?seq, congrArg keySchedule hat.x_eq, hat.r_eq⟩⟩
  case seq =>
    have hnext : ∀ p < 2, BitVec.ofNat 5 (2 + 9 * p + 8) + 1 = BitVec.ofNat 5 (2 + 9 * (p + 1) + 0) := by decide
    exact (congrArg (· + 1) hat.seq_eq).trans (hnext p hp)

/-- Every place but FOLD's leads on within the compression. -/
theorem Compressing.after_engineTurn (hc : Compressing rom h blk s) (hne : s.seq ≠ 28) (ht : engineTurn exec s = .next t) :
    Compressing rom h blk t := by
  suffices hnext : ∃ u, engineTurn exec s = .next u ∧ Compressing rom h blk u by
    obtain ⟨u, hu, hcu⟩ := hnext
    rw [ht] at hu
    cases hu
    exact hcu
  rcases hc.place with h1 | ⟨p, i, hat⟩
  · exact hc.after_load h1
  rcases Nat.lt_or_eq_of_le hat.round_le with hi | rfl
  · exact hc.after_round hat hi
  · have hp : p ≠ 2 := by
      rintro rfl
      exact hne hat.seq_eq
    have hlt := hat.pass_lt
    exact hc.after_ksched hat (by omega)

/-- While busy a host access leaves the compression where it is (44_compress_engine.md R118). -/
theorem Compressing.after_hostAccess {a : Access} (hc : Compressing rom h blk s) (ht : hostAccess exec a s = .next t) :
    Compressing rom h blk t := by
  obtain ⟨t', ht', hh, hblk, hx, hr, hseq, -, -, -, -, hrom, -⟩ := hostAccess_busy a s hc.seq_ne_zero
  obtain rfl : t' = t := by simpa [ht'] using ht
  refine ⟨hh.trans hc.h_eq, hblk.trans hc.blk_eq, hrom.trans hc.rom_eq, ?_⟩
  exact hc.place.imp hseq.trans fun ⟨p, i, hat⟩ => ⟨p, i, hat.pass_lt, hat.round_le, hseq.trans hat.seq_eq,
    hx.trans hat.x_eq, hr.trans hat.r_eq⟩

/-- FOLD ends the compression with the value of Compress (44_compress_engine.md R118). -/
theorem Compressing.engineTurn_last (hc : Compressing rom h blk s) (h28 : s.seq.toNat = 28) :
    engineTurn exec s = .next { s with h := compress rom h blk, done := true, seq := 0 } := by
  obtain ⟨p, i, hat⟩ : ∃ p i, AtRound rom h blk p i s := hc.place.resolve_left fun h1 => by simp [h1] at h28
  have hplace := place_toNat hat.pass_lt hat.round_le
  have hp := hat.pass_lt
  have hi := hat.round_le
  rw [← hat.seq_eq] at hplace
  obtain ⟨rfl, rfl⟩ : p = 2 ∧ i = 8 := by omega
  have hr : s.r = passRegisters rom h blk 3 := hat.r_eq.trans (roundsUpTo_eight ..)
  rw [engineTurn_fold (BitVec.eq_of_toNat_eq h28), exec_fold, compress_eq_feedForward, hc.h_eq, hr]

end Engine

/-! The error flags over a schedule (60_exceptions.md R132, R134). -/

/-- A host turn whose access meets `p`. -/
def Turn.isHost (p : Access → Bool) : Turn → Bool
  | .host a => p a
  | .engine => false
  | .reset => false

theorem any_isHost_iff (p : Access → Bool) (ts : List Turn) :
    ts.any (Turn.isHost p) = true ↔ ∃ a, Turn.host a ∈ ts ∧ p a = true := by
  rw [List.any_eq_true]
  constructor
  · rintro ⟨a | a | a, hmem, hp⟩
    · cases hp
    · exact ⟨a, hmem, hp⟩
    · cases hp
  · rintro ⟨a, hmem, hp⟩
    exact ⟨.host a, hmem, hp⟩

/-- From `s` to `t`, while busy, the turns `ts` raised `ERR_BUSY` for each access that stores, `ERR_ACC` for each bad one, and
nothing else. -/
structure Accounted (s : State) (ts : List Turn) (t : State) : Prop where
  errCmd_eq : t.errCmd = s.errCmd
  errBusy_eq : t.errBusy = (s.errBusy || ts.any (Turn.isHost Access.storing))
  errAcc_eq : t.errAcc = (s.errAcc || ts.any (Turn.isHost Access.bad))

theorem Accounted.of_same {s t : State} (hcmd : t.errCmd = s.errCmd) (hbusy : t.errBusy = s.errBusy)
    (hacc : t.errAcc = s.errAcc) : Accounted s [] t :=
  ⟨hcmd, hbusy.trans (Bool.or_false _).symm, hacc.trans (Bool.or_false _).symm⟩

theorem Accounted.append {s t u : State} {ts us : List Turn} (hst : Accounted s ts t) (htu : Accounted t us u) :
    Accounted s (ts ++ us) u := by
  refine ⟨htu.errCmd_eq.trans hst.errCmd_eq, ?_, ?_⟩
  · rw [htu.errBusy_eq, hst.errBusy_eq, List.any_append, Bool.or_assoc]
  · rw [htu.errAcc_eq, hst.errAcc_eq, List.any_append, Bool.or_assoc]

/-! The run from START to FOLD. -/

section Run
variable {rom : Rom} {h : Vector Word 3} {blk : Vector Byte 64} {s : State} {ts rest : List Turn}

/-- One turn of the engine or of the host before FOLD keeps the compression going. -/
theorem Compressing.after_step {a : Turn} (hc : Compressing rom h blk s) (ht : s.turns = a :: ts) (ha : a ≠ .reset)
    (hle : s.seq.toNat + [a].count .engine ≤ 28) :
    ∃ t, step s = .next t ∧ t.seq.toNat = s.seq.toNat + [a].count .engine ∧ t.turns = ts ∧ Compressing rom h blk t ∧
      Accounted s [a] t := by
  obtain ⟨t, hstep, hseq, hturns⟩ := step_while_busy hc.seq_ne_zero ht ha hle
  refine ⟨t, hstep, hseq, hturns, ?_⟩
  rw [step_cons ht] at hstep
  cases a with
  | engine =>
    have hne : s.seq ≠ 28 := fun h28 => by simp [h28] at hle
    have hflag := engineTurn_flag hstep
    exact ⟨(hc.setTurns ts).after_engineTurn hne hstep, hflag .cmd, (hflag .busy).trans (Bool.or_false _).symm,
      (hflag .acc).trans (Bool.or_false _).symm⟩
  | host a =>
    obtain ⟨-, hacc⟩ := hostTurn_inv hstep
    refine ⟨(hc.setTurns ts).after_hostAccess hacc, ?_⟩
    obtain ⟨t', ht', -, -, -, -, -, -, hbusy, hcmd, hbad, -⟩ := hostAccess_busy a (s.setTurns ts) hc.seq_ne_zero
    obtain rfl : t' = t := by simpa [ht'] using hacc
    exact ⟨hcmd, by simpa [Turn.isHost] using hbusy, by simpa [Turn.isHost] using hbad⟩
  | reset => exact absurd rfl ha

theorem Compressing.after_run (hc : Compressing rom h blk s) (ht : s.turns = ts ++ rest) (hr : Turn.reset ∉ ts)
    (hle : s.seq.toNat + ts.count .engine ≤ 28) :
    ∃ t, runSteps ts.length s = .next t ∧ t.seq.toNat = s.seq.toNat + ts.count .engine ∧ t.turns = rest ∧
      Compressing rom h blk t ∧ Accounted s ts t := by
  induction ts generalizing s with
  | nil => exact ⟨s, runSteps_zero s, rfl, ht, hc, .of_same rfl rfl rfl⟩
  | cons a as ih =>
    have hcount : (a :: as).count .engine = [a].count .engine + as.count .engine := List.count_append (l₁ := [a])
    obtain ⟨hne, hr⟩ : Turn.reset ≠ a ∧ Turn.reset ∉ as := by simpa using hr
    obtain ⟨u, hu, huseq, huturns, hcu, hau⟩ := hc.after_step ht hne.symm (by omega)
    obtain ⟨t, hrun, hseq, hturns, hct, hat⟩ := ih hcu huturns hr (by omega)
    exact ⟨t, by rw [List.length_cons, runSteps_succ hu, hrun], by omega, hturns, hct, hau.append hat⟩

/-- START begins a compression of the `H` and `BLK` it finds (44_compress_engine.md R116). -/
theorem step_start (h0 : s.seq = 0) (ht : s.turns = .host (.write 0x58 8 1) :: ts) :
    step s = .next (((s.setTurns ts).setDone false).setSeq 1) := by
  have h0' : (s.setTurns ts).seq = 0 := h0
  calc step s
    _ = performWrite exec offCmd 8 1 (s.setTurns ts) := step_write_idle h0 ht (by decide)
    _ = .next (((s.setTurns ts).setDone false).setSeq 1) := by rw [performWrite_cmd, hostCommand_start h0']

end Run

/-- Settles O43: START begins the compression, the turns in between keep it going to place 28, and FOLD ends it there. -/
theorem machineComputesCompress : Obligations.MachineComputesCompress := by
  unfold Obligations.MachineComputesCompress
  intro s ts rest h0 ht hr hcount
  have hstart := step_start h0 ht
  have hbegin : Compressing s.rom s.h s.blk (((s.setTurns (ts ++ .engine :: rest)).setDone false).setSeq 1) :=
    ⟨rfl, rfl, rfl, .inl rfl⟩
  obtain ⟨u, hrun, hseq, hturns, hcu, hau⟩ := hbegin.after_run (ts := ts) rfl hr (by simp [hcount])
  have h28 : u.seq.toNat = 28 := by simpa [hcount] using hseq
  have hfold := (step_cons hturns).trans ((hcu.setTurns rest).engineTurn_last h28)
  have hall := (runSteps_succ hstart _).trans (runSteps_snoc hrun hfold)
  refine ⟨_, hall, rfl, hcu.blk_eq, rfl, rfl, hau.errCmd_eq, ?busy, ?acc, hcu.rom_eq, rfl⟩
  case busy =>
    rw [← any_isHost_iff, ← Bool.or_eq_true]
    exact hau.errBusy_eq ▸ Iff.rfl
  case acc =>
    rw [← any_isHost_iff, ← Bool.or_eq_true]
    exact hau.errAcc_eq ▸ Iff.rfl

end Sys2Proof.Machine
end
